-- ==== Sys2Proof/Word.lean ====
section
/-! DEFINITION. The value types of the block: bytes, frame states, message types, and what crosses
the call port (00_scope.md R9, 10_state.md R21 and R23, 43_dispatch.md R186). -/

namespace Sys2Proof

/-- An unsigned 8-bit value (R9). -/
abbrev Byte := BitVec 8

/-- The eight frame states (R21). -/
inductive FrameState where
  | wait
  | init
  | payload
  | applicationChecksum
  | applicationStore
  | notificationSource
  | notificationTitle
  | notificationBody
  deriving DecidableEq, Repr

/-- The message types (R23); `ext k` is extension type number `k` in `EXT_TYPES` order. -/
inductive MsgType where
  | unknown
  | application
  | notification
  | syscall
  | ext (k : Nat)
  deriving DecidableEq, Repr

/-- A collaborator's error value `E`: opaque to the block (R187). DESIGN CHOICE (log 6): a token. -/
structure CollabError where
  token : Nat
  deriving DecidableEq, Repr

/-- The Application manager's `StatusInfo`: opaque to the block (R187). DESIGN CHOICE (log 6). -/
structure StatusInfo where
  token : Nat
  deriving DecidableEq, Repr

/-- The `Syscall` value `parse` returns: opaque to the block (R189). DESIGN CHOICE (log 6). -/
structure SyscallValue where
  token : Nat
  deriving DecidableEq, Repr

/-- `Result<α, E>` of the contracts (R10, R187 to R189). -/
inductive Result (α : Type) where
  | ok (v : α)
  | err (e : CollabError)
  deriving DecidableEq, Repr

/-- One drawn response (R186): each operation reads from it a value of its own result type
(`Response.unit`, `Response.status`, `Response.parsed`). -/
structure Response where
  isErr : Bool
  value : Nat
  deriving DecidableEq, Repr, Inhabited

/-- What a collaborator does when it is called: it answers, or it breaks its contract and calls
WRITE, PROCESS or RESET on the block before it returns (70_reset_and_hazards.md R237). -/
inductive Answer where
  | respond (r : Response)
  | reenter
  deriving DecidableEq, Repr

/-- The device context of PROCESS (R94). Within the block it stands for the collaborator oracle:
`answers` are its draws, oldest first; `id` is what `execute` is handed (log 5, log 18). -/
structure Ctx where
  id : Nat
  answers : List Answer
  deriving DecidableEq, Repr

end Sys2Proof
end

