-- ==== Sys2Proof/Config.lean ====
section
/-! DEFINITION. The implementation parameters of 00_scope.md R7, and the free values: what the spec
leaves to any value (93_implementation_defined.md U1, U2, I5, I7). -/

namespace Sys2Proof

/-- The parameters of R7. No step writes them. They are plain data of State, so that a statement
about every state is a statement about every configuration (D22, D23; log 1). -/
structure Config where
  /-- `QCAP`, the capacity of the Bounded Byte Queue. -/
  qcap : Nat
  /-- `FBCAP`, the capacity of the Frame Buffer: OPEN. -/
  fbcap : Nat
  /-- `TYPE_TABLE`: the first entry for a byte counts, a byte without one is Unknown (log 22). -/
  typeTable : List (Byte × MsgType)
  /-- `EXT_TYPES`, the extension types' names in order. -/
  extTypes : List String
  /-- `ext_dispatch`: the collaborator operation an extension type's completed frame goes to. -/
  extDispatch : List (Nat × String)
  deriving DecidableEq, Repr

/-- A message type that the configuration has: an extension type is one of `EXT_TYPES`. -/
def MsgType.known (nExt : Nat) : MsgType → Bool
  | .unknown => true
  | .application => true
  | .notification => true
  | .syscall => true
  | .ext k => decide (k < nExt)

/-- R7: `QCAP` and `FBCAP` are integers ≥ 1, and the table names only types that exist. -/
def Config.wf (c : Config) : Bool :=
  decide (1 ≤ c.qcap) && decide (1 ≤ c.fbcap)
    && c.typeTable.all (fun e => e.2.known c.extTypes.length)

/-- `FBCAP` of the machine after reset is one more than this free value: no source gives a number,
only that it is at least 1 (R7, D23; log 1). -/
opaque Config.freeFbcap : Nat

/-- The n-th response a collaborator draws when the PROCESS's context holds no more (D25; log 5). -/
opaque Config.freeResponse : Nat → Response

/-- Who moves at the n-th free choice between the two agents: the producer where it is true
(60_exceptions.md R210, I7; log 7). -/
opaque Config.freeTurn : Nat → Bool

/-- The n-th unspecified decoder character after a RESET transaction (R34, U2; log 3). -/
opaque Config.freeHxChar : Nat → Byte

/-- What byte `i` of the Frame Buffer holds before anything has written it; the first argument
tells one reset's values from another's (R34, U1; log 4). -/
opaque Config.freeFbByte : Nat → Nat → Byte

/-- The canonical configuration (R7, R8): 512 bytes of queue in the reference design, three
recognised types, no extension types. -/
def Config.canonical : Config where
  qcap := 512
  fbcap := Config.freeFbcap + 1
  typeTable := [(0x41#8, .application), (0x4E#8, .notification), (0x53#8, .syscall)]
  extTypes := []
  extDispatch := []

end Sys2Proof
end

