-- ==== Sys2Proof/Syntax.lean ====
section
/-! DEFINITION. The operations of the block, one constructor per row of spec/opcode_table.json
(00_scope.md R3, 30_encoding.md R83 and R85): 23 byte handlers and 3 port transactions. -/

namespace Sys2Proof

/-- R83's operation map and the three port transactions. A DATA handler's operand is the byte. -/
inductive Instr where
  | stx
  | etxWait
  | etx
  | usWait
  | usInitUnknown
  | usInitApplication
  | usInitNotification
  | usInitSyscall
  | usInitExt
  | usPayload
  | usApplicationChecksum
  | usApplicationStore
  | usNotificationSource
  | usNotificationTitle
  | usNotificationBody
  | dataWait (d : Byte)
  | dataInit (d : Byte)
  | dataPayload (d : Byte)
  | dataApplicationChecksum (d : Byte)
  | dataApplicationStore (d : Byte)
  | dataNotificationSource (d : Byte)
  | dataNotificationTitle (d : Byte)
  | dataNotificationBody (d : Byte)
  | write (bytes : List Byte)
  | process (ctx : Ctx)
  | reset
  deriving DecidableEq, Repr

end Sys2Proof
end

