-- ==== Sys2Proof/Machine/State.lean ====
section
/-! DEFINITION. The state of the machine: the block's registers (10_state.md R20), its parameters
(00_scope.md R7), the transactions in progress (40_queue_ops.md R90, R94), the outputs
(00_scope.md R2), the environment's inputs, and the machine after reset (R34). -/

namespace Sys2Proof.Machine

/-- The engine-fatal faults of 60_exceptions.md R205 with their information. -/
inductive FatalFault where
  /-- QUEUE_OVERFLOW: the length of the WRITE, and how many of its bytes were pushed (R90). -/
  | queueOverflow (requested accepted : Nat)
  /-- FRAME_BUFFER_OVERFLOW: the byte that did not fit (42_frame_fsm.md R147). -/
  | frameBufferOverflow (b : Byte)
  deriving DecidableEq, Repr

/-- The diagnostic events of 60_exceptions.md R201 with their information. -/
inductive Diag where
  | partialFrame (prev : FrameState)
  | unknownType (b : Byte)
  | usUnknownType
  | invalidHex (c0 c1 : Byte)
  | dupSeparator (prev : FrameState)
  | killReject (e : CollabError)
  | checksumReject (b : Byte) (e : CollabError)
  | ramReject (b : Byte) (e : CollabError)
  | verifyFail (e : CollabError) (s : StatusInfo)
  | notifyReject (e : CollabError)
  | syscallParseFail (e : CollabError)
  deriving DecidableEq, Repr

/-- One entry of the call trace: the operation, its arguments, its response (43_dispatch.md R186).
`execute` returns nothing (R189); what an `ext_dispatch` call returns is not stated (log 14). -/
inductive Call where
  | kill (r : Result Unit)
  | writeChecksumByte (b : Byte) (r : Result Unit)
  | writeRamByte (b : Byte) (r : Result Unit)
  | verify (r : Result Unit)
  | status (s : StatusInfo)
  | add (bytes : List Byte) (i0 i1 i2 : Nat) (r : Result Unit)
  | parse (text : List Byte) (r : Result SyscallValue)
  | execute (cmd : SyscallValue) (ctx : Nat)
  | extDispatch (k : Nat) (op : String) (bytes : List Byte)
  deriving DecidableEq, Repr

/-- The results of the port transactions (40_queue_ops.md R90, R94). -/
inductive PortResult where
  | writeOk
  | writeOverflow (requested accepted : Nat)
  | writeHalted
  | processOk
  | processHalted
  deriving DecidableEq, Repr

/-- The producer: idle, or in a WRITE, at one of the two control points of R90's loop. `b` is the
byte it is at, `rest` the bytes after it, `n` the length of the call, `k` the bytes pushed. -/
inductive Producer where
  | idle
  /-- Before the loop's fault test. -/
  | test (b : Byte) (rest : List Byte) (n k : Nat)
  /-- The fault test is passed: EnqueueByte is next (95_test_vectors.md Z4, log 8). -/
  | enqueue (b : Byte) (rest : List Byte) (n k : Nat)
  deriving DecidableEq, Repr

/-- One output of a consumer step. A single list keeps calls and events in the order in which the
handlers' pseudocode gives them (60_exceptions.md R209). -/
inductive Output where
  /-- An entry of the call trace (43_dispatch.md R186). -/
  | call (c : Call)
  /-- An event of the diagnostic stream (60_exceptions.md R201). -/
  | diag (d : Diag)
  deriving DecidableEq, Repr

/-- The two control points of R94's loop: before the fault test, and before the pop. -/
inductive Phase where
  | test
  | pop
  deriving DecidableEq, Repr

/-- The consumer: idle, or in a PROCESS with its context, which it drops when PROCESS returns
(20_memory.md R63). -/
inductive Consumer where
  | idle
  | running (ctx : Ctx) (phase : Phase)
  deriving DecidableEq, Repr

/-- What the environment does next (log 7, log 9): a whole transaction with no step of the other
agent inside it, the begin of one, or one atomic step of an agent that is in a transaction. -/
inductive Input where
  | write (bytes : List Byte)
  | process (ctx : Ctx)
  | reset
  | writeBegin (bytes : List Byte)
  | processBegin (ctx : Ctx)
  | producer
  | consumer
  deriving DecidableEq, Repr

/-- The whole state, plain data. `cfg` to `fault` are the spec's (R7, R20); `producer` and
`consumer` are the transactions in progress; `inputs` is what the environment does next; `outputs`
(the call trace and the diagnostic events in one order: R186, R201, R209; `State.calls` and
`State.diags` are its two parts) and `results` (R90, R94) have come out so far, oldest first (log 15);
`drawn` and `fbBase` are the model's own indices into the free values (log 16). -/
structure State where
  cfg : Config
  q : List Byte
  st : FrameState
  ty : MsgType
  wc : Nat
  fb : List Host.Cell
  idx0 : Nat
  idx1 : Nat
  idx2 : Nat
  sc : Nat
  hxC0 : Byte
  hxC1 : Byte
  hxFill : Bool
  fault : Option FatalFault
  producer : Producer
  consumer : Consumer
  inputs : List Input
  outputs : List Output
  results : List PortResult
  drawn : Nat
  fbBase : Nat
  deriving DecidableEq, Repr

/-- Why the machine stops with a fault: an access to storage that does not exist. Every one is safe
(the machine stops where the spec says no access is made), and no state that meets the invariant of
Safety.lean reaches one (log 17). The engine-fatal faults of R205 are no stops: they are the
register `State.fault`. -/
inductive Fault where
  /-- FbWrite or FbRead at an index outside 0..FBCAP-1 (20_memory.md R53): raised by `fbWrite` and
  `withFrameBytes`. Safe. -/
  | frameBufferIndex (i : Nat)
  /-- QPush with `qlen` not below `QCAP` (20_memory.md R52): raised by `qPush`. Safe. -/
  | queueCapacity
  deriving DecidableEq, Repr

/-- Why the machine declines a case. Every one is safe: the machine stops. -/
inductive Refusal where
  /-- An instruction with no meaning yet; raised by `exec`'s arms alone. No arm does. Safe. -/
  | notModelled (mnemonic : String)
  /-- A handler that the operation map (30_encoding.md R83) does not select: another frame state
  or type, a delimiter for a DATA operand, or no PROCESS running (70_reset_and_hazards.md R235).
  Raised by `whenSelected`. Safe (log 12). -/
  | notSelected
  /-- The pair (`st`, `ty`) is one 10_state.md R31 excludes, an extension type that the configuration
  does not have included (42_frame_fsm.md R158). Raised by `step` and `byteStep`. Safe (log 13). -/
  | unreachablePair
  /-- A WRITE while a WRITE is in progress (70_reset_and_hazards.md R236). Raised by `beginWrite`.
  Safe. -/
  | overlappingWrite
  /-- A PROCESS while a PROCESS is in progress (R236). Raised by `beginProcess`. Safe. -/
  | overlappingProcess
  /-- A RESET while a WRITE or a PROCESS is in progress (R230, R236). Raised by `execReset`.
  Safe. -/
  | overlappingReset
  /-- A collaborator calls back into the block (R237). Raised by `callThen`. Safe. -/
  | collaboratorReentry
  /-- The frame of extension type `k` is complete and the configuration has no `ext_dispatch` for
  it (43_dispatch.md R185, U7). Raised by `dispatchExt`. Safe. -/
  | noExtDispatch (k : Nat)
  deriving DecidableEq, Repr

/-- The outcome of an operation. -/
abbrev Out := Host.Outcome State Fault Refusal

/-- The machine right after reset (R34). The values that R34 leaves unspecified: nothing of `fb` is
written, and `hxC0`, `hxC1` are 0 (DESIGN CHOICE, log 2). The configuration is the canonical one
(R8, log 1). No transaction runs, nothing waits at the ports, nothing has been output (log 11). -/
def State.reset : State where
  cfg := Config.canonical
  q := []
  st := .wait
  ty := .unknown
  wc := 0
  fb := []
  idx0 := 0
  idx1 := 0
  idx2 := 0
  sc := 0
  hxC0 := 0#8
  hxC1 := 0#8
  hxFill := false
  fault := none
  producer := .idle
  consumer := .idle
  inputs := []
  outputs := []
  results := []
  drawn := 0
  fbBase := 0

end Sys2Proof.Machine
end

