-- ==== Sys2Proof/Machine/Operands.lean ====
section
/-! DEFINITION. The operand forms: the Type Classifier (41_classifier_hex.md R110), the hex digits
and pairs (30_encoding.md R79, R80), and what each collaborator operation reads from a drawn
response (43_dispatch.md R186). -/

namespace Sys2Proof.Machine

/-- `TYPE_TABLE` as a total map: a byte without an entry is Unknown (R73, R111). -/
def typeLookup : List (Byte × MsgType) → Byte → MsgType
  | [], _ => .unknown
  | (c, t) :: rest, b => if c = b then t else typeLookup rest b

/-- R110: `classify(b)`. -/
def classify (cfg : Config) (b : Byte) : MsgType := typeLookup cfg.typeTable b

/-- `ext_dispatch` looked up by extension type number (R185). -/
def extTarget : List (Nat × String) → Nat → Option String
  | [], _ => none
  | (j, op) :: rest, k => if j = k then some op else extTarget rest k

/-- R79 and R112: the 4-bit value of a hex digit; `none` for the 234 other bytes. -/
def hexval (c : Byte) : Option (BitVec 4) :=
  let n := c.toNat
  if 0x30 ≤ n ∧ n ≤ 0x39 then some (BitVec.ofNat 4 (n - 0x30))
  else if 0x41 ≤ n ∧ n ≤ 0x46 then some (BitVec.ofNat 4 (n - 0x41 + 10))
  else if 0x61 ≤ n ∧ n ≤ 0x66 then some (BitVec.ofNat 4 (n - 0x61 + 10))
  else none

/-- R80 and R114: the first character supplies bits [7:4], the second bits [3:0]; `none` where
either is no hex digit. -/
def hexPair (c0 c1 : Byte) : Option Byte :=
  match hexval c0, hexval c1 with
  | some h, some l => some ((h.setWidth 8 <<< 4) ||| l.setWidth 8)
  | some _, none => none
  | none, _ => none

/-- A response read as `Result<(), E>` (R187, R188). -/
def unitResult (r : Response) : Result Unit := if r.isErr then .err ⟨r.value⟩ else .ok ()

/-- A response read as `StatusInfo` (R187). -/
def statusResult (r : Response) : StatusInfo := ⟨r.value⟩

/-- A response read as `Result<Syscall, E>` (R189). -/
def parseResult (r : Response) : Result SyscallValue :=
  if r.isErr then .err ⟨r.value⟩ else .ok ⟨r.value⟩

end Sys2Proof.Machine
end

