-- ==== Sys2Proof/Decode.lean ====
section
/-! DEFINITION. The decoder: the byte classes and the operation map (30_encoding.md R71, R72, R83),
the guards of the opcode table's rows, the encoder, and the pairs (`st`, `ty`) that exist
(10_state.md R31). What a byte means depends on the frame state and the message type (R3). -/

namespace Sys2Proof

/-- The four byte classes (R71). -/
inductive ByteClass where
  | stx
  | etx
  | us
  | data
  deriving DecidableEq, Repr

/-- R71: a byte is classified by its full 8-bit value. -/
def byteClass (b : Byte) : ByteClass :=
  if b = 0x02#8 then .stx
  else if b = 0x03#8 then .etx
  else if b = 0x1F#8 then .us
  else .data

/-- A data byte: any byte other than 0x02, 0x03 and 0x1F (R71). -/
def isData (b : Byte) : Bool :=
  match byteClass b with
  | .stx => false
  | .etx => false
  | .us => false
  | .data => true

/-- The pairs (`st`, `ty`) that R31 admits in a configuration of `nExt` extension types: an extension
type is one of those (10_state.md R23), so a larger number is no message type in any frame state. -/
def pairOk (nExt : Nat) (st : FrameState) (ty : MsgType) : Bool :=
  ty.known nExt &&
  match st with
  | .wait => true
  | .init => true
  | .payload =>
    match ty with
    | .syscall => true
    | .ext _ => true
    | .unknown => false
    | .application => false
    | .notification => false
  | .applicationChecksum => decide (ty = .application)
  | .applicationStore => decide (ty = .application)
  | .notificationSource => decide (ty = .notification)
  | .notificationTitle => decide (ty = .notification)
  | .notificationBody => decide (ty = .notification)

/-- R83, the row of US: by `st`, and in Init by `ty`. -/
def decodeUs (st : FrameState) (ty : MsgType) : Instr :=
  match st with
  | .wait => .usWait
  | .init =>
    match ty with
    | .unknown => .usInitUnknown
    | .application => .usInitApplication
    | .notification => .usInitNotification
    | .syscall => .usInitSyscall
    | .ext _ => .usInitExt
  | .payload => .usPayload
  | .applicationChecksum => .usApplicationChecksum
  | .applicationStore => .usApplicationStore
  | .notificationSource => .usNotificationSource
  | .notificationTitle => .usNotificationTitle
  | .notificationBody => .usNotificationBody

/-- R83, the row of data, by `st` alone. -/
def decodeData (st : FrameState) (b : Byte) : Instr :=
  match st with
  | .wait => .dataWait b
  | .init => .dataInit b
  | .payload => .dataPayload b
  | .applicationChecksum => .dataApplicationChecksum b
  | .applicationStore => .dataApplicationStore b
  | .notificationSource => .dataNotificationSource b
  | .notificationTitle => .dataNotificationTitle b
  | .notificationBody => .dataNotificationBody b

/-- R83, the row of ETX. -/
def decodeEtx (st : FrameState) : Instr :=
  match st with
  | .wait => .etxWait
  | .init => .etx
  | .payload => .etx
  | .applicationChecksum => .etx
  | .applicationStore => .etx
  | .notificationSource => .etx
  | .notificationTitle => .etx
  | .notificationBody => .etx

/-- 42_frame_fsm.md R130 and R72: the class test comes before the state test. -/
def decodeByte (st : FrameState) (ty : MsgType) (b : Byte) : Instr :=
  match byteClass b with
  | .stx => .stx
  | .etx => decodeEtx st
  | .us => decodeUs st ty
  | .data => decodeData st b

/-- Why no operation is read from a stream. -/
inductive DecodeError where
  /-- The stream is empty: there is no byte to handle. -/
  | noByte
  /-- R158: the pair is one that R31 excludes, or `ty` is no message type of the configuration. -/
  | unreachablePair
  deriving DecidableEq, Repr

/-- The operation the next byte of a stream selects, and the rest of the stream, in a configuration
of `nExt` extension types. Every byte is one operation (R70); nothing else is rejected than an empty
stream and a pair R31 excludes (R158). -/
def decode (nExt : Nat) (st : FrameState) (ty : MsgType) :
    List Byte → Except DecodeError (Instr × List Byte)
  | [] => .error .noByte
  | b :: rest =>
    if pairOk nExt st ty then .ok (decodeByte st ty b, rest) else .error .unreachablePair

/-- The byte handlers; the others are port transactions, which are not byte-encoded (R84). -/
def Instr.isHandler : Instr → Bool
  | .stx => true
  | .etxWait => true
  | .etx => true
  | .usWait => true
  | .usInitUnknown => true
  | .usInitApplication => true
  | .usInitNotification => true
  | .usInitSyscall => true
  | .usInitExt => true
  | .usPayload => true
  | .usApplicationChecksum => true
  | .usApplicationStore => true
  | .usNotificationSource => true
  | .usNotificationTitle => true
  | .usNotificationBody => true
  | .dataWait _ => true
  | .dataInit _ => true
  | .dataPayload _ => true
  | .dataApplicationChecksum _ => true
  | .dataApplicationStore _ => true
  | .dataNotificationSource _ => true
  | .dataNotificationTitle _ => true
  | .dataNotificationBody _ => true
  | .write _ => false
  | .process _ => false
  | .reset => false

/-- The columns `st` and `ty` of the opcode table: in which frame state, and for US in Init under
which message type, the row is the one that a byte of its class selects. A port transaction is
selected by no byte. -/
def Instr.guard (i : Instr) (st : FrameState) (ty : MsgType) : Bool :=
  match i with
  | .stx => true
  | .etxWait => decide (st = .wait)
  | .etx => decide (st ≠ .wait)
  | .usWait => decide (st = .wait)
  | .usInitUnknown => decide (st = .init ∧ ty = .unknown)
  | .usInitApplication => decide (st = .init ∧ ty = .application)
  | .usInitNotification => decide (st = .init ∧ ty = .notification)
  | .usInitSyscall => decide (st = .init ∧ ty = .syscall)
  | .usInitExt =>
    decide (st = .init) &&
      match ty with
      | .ext _ => true
      | .unknown => false
      | .application => false
      | .notification => false
      | .syscall => false
  | .usPayload => decide (st = .payload)
  | .usApplicationChecksum => decide (st = .applicationChecksum)
  | .usApplicationStore => decide (st = .applicationStore)
  | .usNotificationSource => decide (st = .notificationSource)
  | .usNotificationTitle => decide (st = .notificationTitle)
  | .usNotificationBody => decide (st = .notificationBody)
  | .dataWait _ => decide (st = .wait)
  | .dataInit _ => decide (st = .init)
  | .dataPayload _ => decide (st = .payload)
  | .dataApplicationChecksum _ => decide (st = .applicationChecksum)
  | .dataApplicationStore _ => decide (st = .applicationStore)
  | .dataNotificationSource _ => decide (st = .notificationSource)
  | .dataNotificationTitle _ => decide (st = .notificationTitle)
  | .dataNotificationBody _ => decide (st = .notificationBody)
  | .write _ => false
  | .process _ => false
  | .reset => false

/-- The bytes of an operation, from the opcode table's match column and, for DATA, its operand. The
port transactions have none (R84). -/
def encode : Instr → List Byte
  | .stx => [0x02#8]
  | .etxWait => [0x03#8]
  | .etx => [0x03#8]
  | .usWait => [0x1F#8]
  | .usInitUnknown => [0x1F#8]
  | .usInitApplication => [0x1F#8]
  | .usInitNotification => [0x1F#8]
  | .usInitSyscall => [0x1F#8]
  | .usInitExt => [0x1F#8]
  | .usPayload => [0x1F#8]
  | .usApplicationChecksum => [0x1F#8]
  | .usApplicationStore => [0x1F#8]
  | .usNotificationSource => [0x1F#8]
  | .usNotificationTitle => [0x1F#8]
  | .usNotificationBody => [0x1F#8]
  | .dataWait d => [d]
  | .dataInit d => [d]
  | .dataPayload d => [d]
  | .dataApplicationChecksum d => [d]
  | .dataApplicationStore d => [d]
  | .dataNotificationSource d => [d]
  | .dataNotificationTitle d => [d]
  | .dataNotificationBody d => [d]
  | .write _ => []
  | .process _ => []
  | .reset => []

/-- The operation the decoder reads from one byte numbered as the opcode table numbers it, at the
frame state and type of the machine after reset (Wait, Unknown; R34). A table word alone does not
tell the rows of one byte apart: `st` and `ty` do (log 10). -/
def decodeTableWord (nbits w : Nat) : Option Instr :=
  if nbits = 8 ∧ w < 256 then
    match decode 0 .wait .unknown [BitVec.ofNat 8 w] with
    | .ok (i, _) => some i
    | .error _ => none
  else none

end Sys2Proof
end

