-- ==== Sys2Proof/WellFormed.lean ====
section
/-! DEFINITION. Which operations are well formed: the operand of a DATA handler is one of the 253
data byte values (30_encoding.md R71, the opcode table's field d). -/

namespace Sys2Proof

/-- A DATA handler's operand is never a delimiter (R72); any byte sequence may be written (R90). -/
def Instr.wf : Instr → Bool
  | .stx => true
  | .etxWait => true
  | .etx => true
  | .usWait => true
  | .usInitUnknown => true
  | .usInitApplication => true
  | .usInitNotification => true
  | .usInitSyscall => true
  | .usInitExt => true
  | .usPayload => true
  | .usApplicationChecksum => true
  | .usApplicationStore => true
  | .usNotificationSource => true
  | .usNotificationTitle => true
  | .usNotificationBody => true
  | .dataWait d => isData d
  | .dataInit d => isData d
  | .dataPayload d => isData d
  | .dataApplicationChecksum d => isData d
  | .dataApplicationStore d => isData d
  | .dataNotificationSource d => isData d
  | .dataNotificationTitle d => isData d
  | .dataNotificationBody d => isData d
  | .write _ => true
  | .process _ => true
  | .reset => true

end Sys2Proof
end

