-- ==== Sys2Proof/Machine/Ops.lean ====
section
/-! DEFINITION. The named operations over the registers, the two storages and the ports that every
meaning is written in: the updates of one field, the queue and Frame Buffer primitives
(20_memory.md R51, R53), the append (42_frame_fsm.md R147), the fatal fault
(60_exceptions.md R206), the diagnostics, the call primitive (43_dispatch.md R186), the Hex-Pair
Decoder (41_classifier_hex.md R113) and reset (70_reset_and_hazards.md R230). -/

namespace Sys2Proof.Machine

/-! ### Updates of one field -/

def State.setQ (s : State) (v : List Byte) : State := { s with q := v }
def State.setSt (s : State) (v : FrameState) : State := { s with st := v }
def State.setTy (s : State) (v : MsgType) : State := { s with ty := v }
def State.setWc (s : State) (v : Nat) : State := { s with wc := v }
def State.setFb (s : State) (v : List Host.Cell) : State := { s with fb := v }
def State.setIdx0 (s : State) (v : Nat) : State := { s with idx0 := v }
def State.setIdx1 (s : State) (v : Nat) : State := { s with idx1 := v }
def State.setIdx2 (s : State) (v : Nat) : State := { s with idx2 := v }
def State.setSc (s : State) (v : Nat) : State := { s with sc := v }
def State.setHxC0 (s : State) (v : Byte) : State := { s with hxC0 := v }
def State.setHxC1 (s : State) (v : Byte) : State := { s with hxC1 := v }
def State.setHxFill (s : State) (v : Bool) : State := { s with hxFill := v }
def State.setFault (s : State) (v : Option FatalFault) : State := { s with fault := v }
def State.setProducer (s : State) (v : Producer) : State := { s with producer := v }
def State.setConsumer (s : State) (v : Consumer) : State := { s with consumer := v }
def State.setInputs (s : State) (v : List Input) : State := { s with inputs := v }
def State.setDrawn (s : State) (v : Nat) : State := { s with drawn := v }
def State.setFbBase (s : State) (v : Nat) : State := { s with fbBase := v }
/-- The call trace grows by one entry (R186). -/
def State.addCall (s : State) (c : Call) : State := { s with outputs := s.outputs ++ [.call c] }
/-- `emit Diag(code, info)`: one event more on the diagnostic output (R10, R201). -/
def State.emit (s : State) (d : Diag) : State := { s with outputs := s.outputs ++ [.diag d] }
/-- A port transaction returns its result (R90, R94). -/
def State.addResult (s : State) (r : PortResult) : State := { s with results := s.results ++ [r] }

/-! ### The two output streams -/

/-- The calls among some outputs. -/
def callsOf : List Output → List Call
  | [] => []
  | .call c :: rest => c :: callsOf rest
  | .diag _ :: rest => callsOf rest

/-- The diagnostic events among some outputs. -/
def diagsOf : List Output → List Diag
  | [] => []
  | .call _ :: rest => diagsOf rest
  | .diag d :: rest => d :: diagsOf rest

/-- The call trace (R186). -/
def State.calls (s : State) : List Call := callsOf s.outputs

/-- The diagnostic event stream (R201). -/
def State.diags (s : State) : List Diag := diagsOf s.outputs

/-! ### Sequencing -/

/-- Go on with `k` where `o` is a next state; a stop stays. -/
def andThen (o : Out) (k : State → Out) : Out :=
  match o with
  | .next s => k s
  | .fault r => .fault r
  | .refused r => .refused r

/-! ### Byte storage: a list of cells at strictly rising addresses

A byte that nothing has written is in no cell and reads as no value here; what FbRead gives for it
is `fbByte` (log 4). -/

/-- Every address of the list is above `lo`, and they rise strictly. -/
def Memory.risingFrom : Nat → List Host.Cell → Bool
  | _, [] => true
  | lo, (a, _) :: rest => decide (lo < a) && Memory.risingFrom a rest

/-- The canonical form: strictly rising addresses. -/
def Memory.wf : List Host.Cell → Bool
  | [] => true
  | (a, _) :: rest => Memory.risingFrom a rest

/-- The byte last written at `i`, where there is one. -/
def Memory.read : List Host.Cell → Nat → Option Byte
  | [], _ => none
  | (a, b) :: rest, i => if a = i then some b else Memory.read rest i

/-- Store `b` at `i`, in canonical form. -/
def Memory.write : List Host.Cell → Nat → Byte → List Host.Cell
  | [], i, b => [(i, b)]
  | (a, c) :: rest, i, b =>
    if i < a then (i, b) :: (a, c) :: rest
    else if i = a then (i, b) :: rest
    else (a, c) :: Memory.write rest i b

/-! ### The queue -/

/-- R51, R52: append at the tail; performed only below capacity. -/
def qPush (b : Byte) (s : State) : Out :=
  if s.q.length < s.cfg.qcap then .next (s.setQ (s.q ++ [b])) else .fault .queueCapacity

/-- R51: remove the head and return it; `none`, and nothing changed, on an empty queue. -/
def qPop (s : State) : Option (Byte × State) :=
  match s.q with
  | [] => none
  | b :: rest => some (b, s.setQ rest)

/-! ### The fatal fault -/

/-- R206: `raise Fatal`. Only the first fault is recorded (R207). -/
def raiseFatal (f : FatalFault) (s : State) : State :=
  match s.fault with
  | none => s.setFault (some f)
  | some _ => s

/-- Halted: the fault register is not NONE (R206). -/
def State.halted (s : State) : Bool := s.fault.isSome

/-! ### The Frame Buffer -/

/-- FbRead(i): the byte last written at index `i`; where nothing has been written since reset, a
free value (R53, R34, U1). -/
def State.fbByte (s : State) (i : Nat) : Byte :=
  match Memory.read s.fb i with
  | some b => b
  | none => Config.freeFbByte s.fbBase i

/-- FbWrite(i, b), for an index that exists (R53). -/
def fbWrite (i : Nat) (b : Byte) (s : State) : Out :=
  if i < s.cfg.fbcap then .next (s.setFb (Memory.write s.fb i b)) else .fault (.frameBufferIndex i)

/-- R147: FbAppend. `stored` is what the caller does when it answers Stored; when it answers
Overflowed nothing is done after the raise (R206). -/
def fbAppend (b : Byte) (stored : State → State) (s : State) : Out :=
  if s.wc = s.cfg.fbcap then .next (raiseFatal (.frameBufferOverflow b) s)
  else andThen (fbWrite s.wc b s) fun t => .next (stored (t.setWc (t.wc + 1)))

/-- `fb[0..wc)`, the frame's bytes in arrival order (R25, R183). -/
def State.frameBytes (s : State) : List Byte := (List.range s.wc).map s.fbByte

/-- Read `fb[0..wc)` and go on with it; every index read must exist (R53). -/
def withFrameBytes (s : State) (k : List Byte → Out) : Out :=
  if s.wc ≤ s.cfg.fbcap then k s.frameBytes else .fault (.frameBufferIndex s.cfg.fbcap)

/-! ### Diagnostics that end a frame -/

/-- R202: a recoverable error returns `st` to Wait and reports one event. -/
def abortFrame (d : Diag) (s : State) : State := (s.setSt .wait).emit d

/-! ### The Hex-Pair Decoder -/

/-- R115: HexReset. -/
def hexReset (s : State) : State := s.setHxFill false

/-- The result of `feed` (R113). -/
inductive FeedResult where
  /-- `None`: the first character of a pair. -/
  | pending
  /-- `Some(v)`. -/
  | value (v : Byte)
  /-- `Err(InvalidHexDigit)`. -/
  | invalid
  deriving DecidableEq, Repr

/-- What `feed(b)` returns (R113): nothing for a first character, else the pair's value or Err. -/
def feedResult (b : Byte) (s : State) : FeedResult :=
  if s.hxFill then
    match hexPair s.hxC0 b with
    | some v => .value v
    | none => .invalid
  else .pending

/-- What `feed(b)` writes (R113). -/
def feedState (b : Byte) (s : State) : State :=
  if s.hxFill then hexReset (s.setHxC1 b) else (s.setHxC0 b).setHxFill true

/-! ### The call primitive -/

/-- The identity of the context the consumer step runs with (R63); 0 where no PROCESS runs, which
no handler sees (`State.selects`). -/
def State.ctxId (s : State) : Nat :=
  match s.consumer with
  | .idle => 0
  | .running ctx _ => ctx.id

/-- The answers that the running PROCESS's context still holds. -/
def answersLeft (c : Consumer) : List Answer :=
  match c with
  | .idle => []
  | .running ctx _ => ctx.answers

/-- The consumer with the oldest answer of its context, if there is one, used up. -/
def dropAnswer (c : Consumer) : Consumer :=
  match c with
  | .idle => .idle
  | .running ctx ph => .running ⟨ctx.id, ctx.answers.tail⟩ ph

/-- The response the next call draws (R186): the oldest answer of the context; where it holds no
more, a free value; `none` where the collaborator re-enters instead (R237). -/
def State.answer (s : State) : Option Response :=
  match answersLeft s.consumer with
  | [] => some (Config.freeResponse s.drawn)
  | .respond r :: _ => some r
  | .reenter :: _ => none

/-- One free value more is drawn where the context holds no answer. -/
def countDraw (answers : List Answer) (n : Nat) : Nat :=
  match answers with
  | [] => n + 1
  | _ :: _ => n

/-- The draw is used up. -/
def State.advance (s : State) : State :=
  { s with
    consumer := dropAnswer s.consumer
    drawn := countDraw (answersLeft s.consumer) s.drawn }

/-- R186: one synchronous call; the caller goes on with the response it draws. -/
def callThen (s : State) (k : Response → State → Out) : Out :=
  match s.answer with
  | some r => k r s.advance
  | none => .refused .collaboratorReentry

/-! ### Selection of a handler -/

/-- A PROCESS is running (R94, R235). -/
def State.consuming (s : State) : Bool :=
  match s.consumer with
  | .idle => false
  | .running _ _ => true

/-- The pair (`st`, `ty`) is one that R31 admits in the state's configuration. -/
def State.pairExists (s : State) : Bool := pairOk s.cfg.extTypes.length s.st s.ty

/-- The operation map selects `i` here (R83, R130): a PROCESS is running, the pair exists (R31),
and `i` is the operation that its byte stands for under `st` and `ty`. -/
def State.selects (s : State) (i : Instr) : Bool :=
  s.consuming && s.pairExists && i.guard s.st s.ty && i.wf

/-- A handler runs where the operation map selects it, and nowhere else (log 12). -/
def whenSelected (i : Instr) (s : State) (body : Out) : Out :=
  if s.selects i then body else .refused .notSelected

/-! ### Reset -/

/-- R230: what RESET leaves. The bytes of `fb` and the decoder's characters are unspecified: free
values (R34, U1, U2; log 3, log 4). The parameters, the outputs so far and the environment's inputs
are no state of the block (R20) and stay. -/
def resetBlock (s : State) : State where
  cfg := s.cfg
  q := []
  st := .wait
  ty := .unknown
  wc := 0
  fb := []
  idx0 := 0
  idx1 := 0
  idx2 := 0
  sc := 0
  hxC0 := Config.freeHxChar s.drawn
  hxC1 := Config.freeHxChar (s.drawn + 1)
  hxFill := false
  fault := none
  producer := .idle
  consumer := .idle
  inputs := s.inputs
  outputs := s.outputs
  results := s.results
  drawn := s.drawn + 2
  fbBase := s.drawn + 1

end Sys2Proof.Machine
end

