-- ==== Sys2Proof/Machine/DataBytes.lean ====
section
/-! DEFINITION. The meanings of the data bytes, by frame state (42_frame_fsm.md R145 to R153). -/

namespace Sys2Proof.Machine

/-- R145: discarded. -/
def execDataWait (d : Byte) (s : State) : Out := whenSelected (.dataWait d) s (.next s)

/-- R146: every data byte in Init is classified; Unknown drops the frame. -/
def execDataInit (d : Byte) (s : State) : Out :=
  whenSelected (.dataInit d) s <|
    let t := classify s.cfg d
    let s1 := s.setTy t
    if t = .unknown then .next (abortFrame (.unknownType d) s1) else .next s1

/-- R148: capture. -/
def execDataPayload (d : Byte) (s : State) : Out :=
  whenSelected (.dataPayload d) s (fbAppend d id s)

/-- R149 to R151: capture, and where the byte is stored the section cursor moves with it. -/
def captureSection (d : Byte) (s : State) : Out := fbAppend d (fun t => t.setSc (t.sc + 1)) s

/-- R149. -/
def execDataNotificationSource (d : Byte) (s : State) : Out :=
  whenSelected (.dataNotificationSource d) s (captureSection d s)

/-- R150. -/
def execDataNotificationTitle (d : Byte) (s : State) : Out :=
  whenSelected (.dataNotificationTitle d) s (captureSection d s)

/-- R151. -/
def execDataNotificationBody (d : Byte) (s : State) : Out :=
  whenSelected (.dataNotificationBody d) s (captureSection d s)

/-- R152 and R153: feed the decoder; a completed pair goes to the collaborator (`call`); a bad pair
and a rejection (`reject`) end the frame. -/
def decodeCharacter (d : Byte) (call : Byte → Result Unit → Call)
    (reject : Byte → CollabError → Diag) (s : State) : Out :=
  let s1 := feedState d s
  match feedResult d s with
  | .pending => .next s1
  | .invalid => .next (abortFrame (.invalidHex s1.hxC0 s1.hxC1) s1)
  | .value v =>
    callThen s1 fun r s2 =>
      let s3 := s2.addCall (call v (unitResult r))
      match unitResult r with
      | .ok _ => .next s3
      | .err e => .next (abortFrame (reject v e) s3)

/-- R152: the sink is `write_checksum_byte`. -/
def execDataApplicationChecksum (d : Byte) (s : State) : Out :=
  whenSelected (.dataApplicationChecksum d) s <|
    decodeCharacter d .writeChecksumByte .checksumReject s

/-- R153: the sink is `write_ram_byte`. -/
def execDataApplicationStore (d : Byte) (s : State) : Out :=
  whenSelected (.dataApplicationStore d) s <|
    decodeCharacter d .writeRamByte .ramReject s

end Sys2Proof.Machine
end

