-- ==== Sys2Proof/Machine/Collaborators.lean ====
section
/-! DEFINITION. The Dispatcher (43_dispatch.md R180 to R185): it runs inside the ETX step, after
`st <- Wait`, and hands the completed frame to one collaborator, chosen by `ty`. -/

namespace Sys2Proof.Machine

/-- R182: verify the load; on Err report the collaborator's status once. -/
def dispatchApplication (s : State) : Out :=
  callThen s fun r s1 =>
    let s2 := s1.addCall (.verify (unitResult r))
    match unitResult r with
    | .ok _ => .next s2
    | .err e =>
      callThen s2 fun r' s3 =>
        .next ((s3.addCall (.status (statusResult r'))).emit (.verifyFail e (statusResult r')))

/-- R183: stamp the third index with the section cursor, then add the notification. -/
def dispatchNotification (s : State) : Out :=
  let s0 := s.setIdx2 s.sc
  withFrameBytes s0 fun bytes =>
    callThen s0 fun r s1 =>
      let s2 := s1.addCall (.add bytes s1.idx0 s1.idx1 s1.idx2 (unitResult r))
      match unitResult r with
      | .ok _ => .next s2
      | .err e => .next (s2.emit (.notifyReject e))

/-- R184: parse the frame's bytes as they were captured, and execute where the parse succeeds. -/
def dispatchSyscall (s : State) : Out :=
  withFrameBytes s fun text =>
    callThen s fun r s1 =>
      let s2 := s1.addCall (.parse text (parseResult r))
      match parseResult r with
      | .ok cmd => callThen s2 fun _ s3 => .next (s3.addCall (.execute cmd s3.ctxId))
      | .err e => .next (s2.emit (.syscallParseFail e))

/-- R185: the call the configuration names for extension type `k`; refused where it names none. -/
def dispatchExt (k : Nat) (s : State) : Out :=
  match extTarget s.cfg.extDispatch k with
  | some op =>
    withFrameBytes s fun bytes =>
      callThen s fun _ s1 => .next (s1.addCall (.extDispatch k op bytes))
  | none => .refused (.noExtDispatch k)

/-- R180: by type; R181: for Unknown nothing is done. -/
def dispatch (s : State) : Out :=
  match s.ty with
  | .unknown => .next s
  | .application => dispatchApplication s
  | .notification => dispatchNotification s
  | .syscall => dispatchSyscall s
  | .ext k => dispatchExt k s

end Sys2Proof.Machine
end

