-- ==== Sys2Proof/Machine/Delimiters.lean ====
section
/-! DEFINITION. The meanings of STX, ETX.WAIT and ETX (42_frame_fsm.md R131 to R133). -/

namespace Sys2Proof.Machine

/-- R131, the resets: the decoder, the section cursor, the Frame Buffer's registers; then Init. The
bytes of `fb` are not cleared. -/
def startFrame (s : State) : State :=
  (((((((hexReset s).setSc 0).setTy .unknown).setWc 0).setIdx0 0).setIdx1 0).setIdx2 0).setSt .init

/-- R131: STX mid-frame reports the partial buffer; in Wait it reports nothing. -/
def execStx (s : State) : Out :=
  whenSelected .stx s <|
    .next (startFrame (if s.st = .wait then s else s.emit (.partialFrame s.st)))

/-- R132: ETX in Wait has no effect. -/
def execEtxWait (s : State) : Out := whenSelected .etxWait s (.next s)

/-- R133: frame end: `st <- Wait`, then the dispatch. -/
def execEtx (s : State) : Out := whenSelected .etx s (dispatch (s.setSt .wait))

end Sys2Proof.Machine
end

