-- ==== Sys2Proof/Machine/Separators.lean ====
section
/-! DEFINITION. The meanings of the field separator US, by frame state and in Init by type
(42_frame_fsm.md R134 to R144). -/

namespace Sys2Proof.Machine

/-- R134: no effect in Wait. -/
def execUsWait (s : State) : Out := whenSelected .usWait s (.next s)

/-- R135: a premature separator drops the frame. -/
def execUsInitUnknown (s : State) : Out :=
  whenSelected .usInitUnknown s (.next (abortFrame .usUnknownType s))

/-- R136: kill any load in progress, then the checksum field; a failed kill ends the frame. -/
def execUsInitApplication (s : State) : Out :=
  whenSelected .usInitApplication s <|
    callThen s fun r s1 =>
      let s2 := s1.addCall (.kill (unitResult r))
      match unitResult r with
      | .ok _ => .next (s2.setSt .applicationChecksum)
      | .err e => .next (abortFrame (.killReject e) s2)

/-- R137: this separator only ends the type field; it records no index. -/
def execUsInitNotification (s : State) : Out :=
  whenSelected .usInitNotification s (.next (s.setSt .notificationSource))

/-- R138: the generic payload of a Syscall. -/
def execUsInitSyscall (s : State) : Out :=
  whenSelected .usInitSyscall s (.next (s.setSt .payload))

/-- R138: the generic payload of an extension type. -/
def execUsInitExt (s : State) : Out :=
  whenSelected .usInitExt s (.next (s.setSt .payload))

/-- R139: ignored; the frame goes on and the byte is not stored. -/
def execUsPayload (s : State) : Out := whenSelected .usPayload s (.next (s.setSt .payload))

/-- R140: the firmware field; the decoder is not reset. -/
def execUsApplicationChecksum (s : State) : Out :=
  whenSelected .usApplicationChecksum s (.next (s.setSt .applicationStore))

/-- R141: a duplicate separator aborts the frame. -/
def execUsApplicationStore (s : State) : Out :=
  whenSelected .usApplicationStore s (.next (abortFrame (.dupSeparator .applicationStore) s))

/-- R142: the source field ends. -/
def execUsNotificationSource (s : State) : Out :=
  whenSelected .usNotificationSource s (.next ((s.setIdx0 s.sc).setSt .notificationTitle))

/-- R143: the title field ends. -/
def execUsNotificationTitle (s : State) : Out :=
  whenSelected .usNotificationTitle s (.next ((s.setIdx1 s.sc).setSt .notificationBody))

/-- R144: a duplicate separator aborts the frame. -/
def execUsNotificationBody (s : State) : Out :=
  whenSelected .usNotificationBody s (.next (abortFrame (.dupSeparator .notificationBody) s))

end Sys2Proof.Machine
end

