-- ==== Sys2Proof/Machine/Ports.lean ====
section
/-! DEFINITION. The port transactions WRITE, PROCESS and RESET (40_queue_ops.md R90 to R98,
70_reset_and_hazards.md R230), and the atomic steps of the two agents that WRITE and PROCESS are
made of (60_exceptions.md R210, 70_reset_and_hazards.md R241). -/

namespace Sys2Proof.Machine

/-! ### The producer -/

/-- The WRITE returns `r`. -/
def finishWrite (r : PortResult) (s : State) : State := (s.setProducer .idle).addResult r

/-- R90 up to the loop, with R93's test; a second WRITE is refused (R236). -/
def beginWrite (bytes : List Byte) (s : State) : Out :=
  match s.producer with
  | .idle =>
    if s.halted then .next (finishWrite .writeHalted s)
    else
      match bytes with
      | [] => .next (finishWrite .writeOk s)
      | b :: rest => .next (s.setProducer (.test b rest bytes.length 0))
  | .test _ _ _ _ => .refused .overlappingWrite
  | .enqueue _ _ _ _ => .refused .overlappingWrite

/-- After byte `k` is pushed: the loop's next byte, or `return Ok`. -/
def nextByte (rest : List Byte) (n k : Nat) (s : State) : State :=
  match rest with
  | [] => finishWrite .writeOk s
  | b :: rest' => s.setProducer (.test b rest' n k)

/-- R91: EnqueueByte, and what WRITE does with its answer (R90). -/
def enqueueByte (b : Byte) (rest : List Byte) (n k : Nat) (s : State) : Out :=
  if s.q.length = s.cfg.qcap then
    .next (finishWrite (.writeOverflow n k) (raiseFatal (.queueOverflow n k) s))
  else andThen (qPush b s) fun t => .next (nextByte rest n (k + 1) t)

/-- One atomic step of the producer. An idle producer does nothing. -/
def producerAdvance (s : State) : Out :=
  match s.producer with
  | .idle => .next s
  | .test b rest n k =>
    if s.halted then .next (finishWrite .writeHalted s)
    else .next (s.setProducer (.enqueue b rest n k))
  | .enqueue b rest n k => enqueueByte b rest n k s

/-- At most `fuel` producer steps with no consumer step between them. -/
def runProducer : Nat → State → Out
  | 0, s => .next s
  | fuel + 1, s => andThen (producerAdvance s) (runProducer fuel)

/-- R90: the whole WRITE, no consumer step inside it; each byte takes a fault test and an
EnqueueByte. The interleaved form is `Input.writeBegin` (log 9). -/
def execWrite (bytes : List Byte) (s : State) : Out :=
  andThen (beginWrite bytes s) (runProducer (2 * bytes.length))

/-! ### The consumer -/

/-- The PROCESS returns `r`; its context is dropped (R63). -/
def finishProcess (r : PortResult) (s : State) : State := (s.setConsumer .idle).addResult r

/-- R94 up to the loop; a second PROCESS is refused (R236). -/
def beginProcess (ctx : Ctx) (s : State) : Out :=
  match s.consumer with
  | .idle => .next (s.setConsumer (.running ctx .test))
  | .running _ _ => .refused .overlappingProcess

/-- The handler of a byte operation. The port transactions are handlers of no byte. -/
def runHandler (i : Instr) (s : State) : Out :=
  match i with
  | .stx => execStx s
  | .etxWait => execEtxWait s
  | .etx => execEtx s
  | .usWait => execUsWait s
  | .usInitUnknown => execUsInitUnknown s
  | .usInitApplication => execUsInitApplication s
  | .usInitNotification => execUsInitNotification s
  | .usInitSyscall => execUsInitSyscall s
  | .usInitExt => execUsInitExt s
  | .usPayload => execUsPayload s
  | .usApplicationChecksum => execUsApplicationChecksum s
  | .usApplicationStore => execUsApplicationStore s
  | .usNotificationSource => execUsNotificationSource s
  | .usNotificationTitle => execUsNotificationTitle s
  | .usNotificationBody => execUsNotificationBody s
  | .dataWait d => execDataWait d s
  | .dataInit d => execDataInit d s
  | .dataPayload d => execDataPayload d s
  | .dataApplicationChecksum d => execDataApplicationChecksum d s
  | .dataApplicationStore d => execDataApplicationStore d s
  | .dataNotificationSource d => execDataNotificationSource d s
  | .dataNotificationTitle d => execDataNotificationTitle d s
  | .dataNotificationBody d => execDataNotificationBody d s
  | .write _ => .refused .notSelected
  | .process _ => .refused .notSelected
  | .reset => .refused .notSelected

/-- 42_frame_fsm.md R130: Step, the handling of one dequeued byte. -/
def byteStep (b : Byte) (s : State) : Out :=
  match decode s.cfg.extTypes.length s.st s.ty [b] with
  | .ok (i, _) => runHandler i s
  | .error _ => .refused .unreachablePair

/-- The PROCESS goes back to the top of its loop (R94). -/
def nextIteration (s : State) : State :=
  match s.consumer with
  | .idle => s
  | .running ctx _ => s.setConsumer (.running ctx .test)

/-- R95: the pop, with the Step it feeds and every call that makes: one atomic step. -/
def popAndStep (s : State) : Out :=
  match qPop s with
  | none => .next (finishProcess .processOk s)
  | some (b, t) => andThen (byteStep b t) fun u => .next (nextIteration u)

/-- One atomic step of the consumer. An idle consumer does nothing. A halted engine pops nothing and
runs no Step, at either control point: where the producer's overflow falls between the test and the
pop, the PROCESS returns `Halted` too (60_exceptions.md R206; log 8). -/
def consumerAdvance (s : State) : Out :=
  match s.consumer with
  | .idle => .next s
  | .running ctx .test =>
    if s.halted then .next (finishProcess .processHalted s)
    else .next (s.setConsumer (.running ctx .pop))
  | .running _ .pop =>
    if s.halted then .next (finishProcess .processHalted s) else popAndStep s

/-- At most `fuel` consumer steps with no producer step between them. -/
def runConsumer : Nat → State → Out
  | 0, s => .next s
  | fuel + 1, s => andThen (consumerAdvance s) (runConsumer fuel)

/-- R94: the whole PROCESS, no producer step inside it. It ends after at most one iteration for
each queued byte and one more (R98), two steps each. The interleaved form is
`Input.processBegin` (log 9). -/
def execProcess (ctx : Ctx) (s : State) : Out :=
  andThen (beginProcess ctx s) (runConsumer (2 * (s.q.length + 1)))

/-! ### The reset source -/

/-- R230; refused while a transaction is in progress (R236). -/
def execReset (s : State) : Out :=
  match s.producer, s.consumer with
  | .idle, .idle => .next (resetBlock s)
  | .idle, .running _ _ => .refused .overlappingReset
  | .test _ _ _ _, _ => .refused .overlappingReset
  | .enqueue _ _ _ _, _ => .refused .overlappingReset

end Sys2Proof.Machine
end

