-- ==== Sys2Proof/Machine/Dispatch.lean ====
section
/-! DEFINITION. The meaning of every operation: one arm per constructor of Instr. -/

namespace Sys2Proof.Machine

/-- One direct call of a meaning per operation. -/
def exec (i : Instr) (s : State) : Host.Outcome State Fault Refusal :=
  match i with
  | .stx => Sys2Proof.Machine.execStx s
  | .etxWait => Sys2Proof.Machine.execEtxWait s
  | .etx => Sys2Proof.Machine.execEtx s
  | .usWait => Sys2Proof.Machine.execUsWait s
  | .usInitUnknown => Sys2Proof.Machine.execUsInitUnknown s
  | .usInitApplication => Sys2Proof.Machine.execUsInitApplication s
  | .usInitNotification => Sys2Proof.Machine.execUsInitNotification s
  | .usInitSyscall => Sys2Proof.Machine.execUsInitSyscall s
  | .usInitExt => Sys2Proof.Machine.execUsInitExt s
  | .usPayload => Sys2Proof.Machine.execUsPayload s
  | .usApplicationChecksum => Sys2Proof.Machine.execUsApplicationChecksum s
  | .usApplicationStore => Sys2Proof.Machine.execUsApplicationStore s
  | .usNotificationSource => Sys2Proof.Machine.execUsNotificationSource s
  | .usNotificationTitle => Sys2Proof.Machine.execUsNotificationTitle s
  | .usNotificationBody => Sys2Proof.Machine.execUsNotificationBody s
  | .dataWait d => Sys2Proof.Machine.execDataWait d s
  | .dataInit d => Sys2Proof.Machine.execDataInit d s
  | .dataPayload d => Sys2Proof.Machine.execDataPayload d s
  | .dataApplicationChecksum d => Sys2Proof.Machine.execDataApplicationChecksum d s
  | .dataApplicationStore d => Sys2Proof.Machine.execDataApplicationStore d s
  | .dataNotificationSource d => Sys2Proof.Machine.execDataNotificationSource d s
  | .dataNotificationTitle d => Sys2Proof.Machine.execDataNotificationTitle d s
  | .dataNotificationBody d => Sys2Proof.Machine.execDataNotificationBody d s
  | .write bytes => Sys2Proof.Machine.execWrite bytes s
  | .process ctx => Sys2Proof.Machine.execProcess ctx s
  | .reset => Sys2Proof.Machine.execReset s

end Sys2Proof.Machine
end

