-- ==== Sys2Proof/Machine/Schedule.lean ====
section
/-! DEFINITION. Which agent moves next (60_exceptions.md R210, R213): by the environment's next
input, and where there is none by what the agents are in the middle of (log 7); and where the next
byte is fetched from. -/

namespace Sys2Proof.Machine

/-- What one input of the environment does. -/
def takeInput (x : Input) (s : State) : Out :=
  match x with
  | .write bytes => exec (.write bytes) s
  | .process ctx => exec (.process ctx) s
  | .reset => exec .reset s
  | .writeBegin bytes => beginWrite bytes s
  | .processBegin ctx => beginProcess ctx s
  | .producer => producerAdvance s
  | .consumer => consumerAdvance s

/-- A WRITE is in progress. -/
def State.producing (s : State) : Bool :=
  match s.producer with
  | .idle => false
  | .test _ _ _ _ => true
  | .enqueue _ _ _ _ => true

/-- With no input waiting: an agent in a transaction goes on with it; where both are, a free value
chooses (I7); where none is, the block does nothing (60_exceptions.md R216). -/
def goOn (s : State) : Out :=
  if s.producing then
    if s.consuming then
      if Config.freeTurn s.drawn then producerAdvance (s.setDrawn (s.drawn + 1))
      else consumerAdvance (s.setDrawn (s.drawn + 1))
    else producerAdvance s
  else consumerAdvance s

/-- `byte` at the head of the queue, a PROCESS at its pop (with the context it has, or one with no
answers of its own), no fault recorded (a halted engine pops nothing, 60_exceptions.md R206), and the
consumer the agent that moves next (log 11). -/
def placeByte (byte : Byte) (s : State) : State :=
  let ctx : Ctx :=
    match s.consumer with
    | .idle => ⟨0, []⟩
    | .running c _ => c
  (((s.setQ (byte :: s.q.drop 1)).setFault none).setConsumer (.running ctx .pop)).setInputs
    (.consumer :: s.inputs)

end Sys2Proof.Machine
end

