-- ==== Sys2Proof/Machine/Step.lean ====
section
/-! DEFINITION. One step of the machine: the environment's next input or the agents' own next step;
and a byte placed where the next step takes it from. -/

namespace Sys2Proof.Machine

/-- One step. A state whose pair (`st`, `ty`) R31 excludes in its configuration is refused
(42_frame_fsm.md R158). -/
def step (s : State) : Host.Outcome State Fault Refusal :=
  if s.pairExists then
    match s.inputs with
    | x :: rest => takeInput x (s.setInputs rest)
    | [] => goOn s
  else .refused .unreachablePair

/-- `s` with the byte `w` placed so that the next step pops and handles exactly it. An operation is
one byte long, so `nbits` says nothing more. -/
def State.withFetchWord (s : State) (_nbits w : Nat) : State := placeByte (BitVec.ofNat 8 w) s

end Sys2Proof.Machine
end

