-- ==== Sys2Proof/Machine/Flags.lean ====
section
/-! DEFINITION. The block has no condition flags (10_state.md R33). Its conditions are the
diagnostic events and the fault register: this file gives their codes and the labels of the frame
states and message types (60_exceptions.md R201, R205; 10_state.md R21, R23). No behaviour depends
on them (D20, D21). -/

namespace Sys2Proof.Machine

/-- R201, the column "code". -/
def diagCode : Diag → Byte
  | .partialFrame _ => 0x01#8
  | .unknownType _ => 0x02#8
  | .usUnknownType => 0x03#8
  | .invalidHex _ _ => 0x04#8
  | .dupSeparator _ => 0x05#8
  | .killReject _ => 0x06#8
  | .checksumReject _ _ => 0x07#8
  | .ramReject _ _ => 0x08#8
  | .verifyFail _ _ => 0x09#8
  | .notifyReject _ => 0x0A#8
  | .syscallParseFail _ => 0x0B#8

/-- R205, the column "code". -/
def faultCode : FatalFault → Byte
  | .queueOverflow _ _ => 0x80#8
  | .frameBufferOverflow _ => 0x81#8

/-- The error classes of R200 and R201. -/
inductive DiagClass where
  | partialBuffer
  | protocolLocal
  | applicationReject
  | fatalToLoad
  | collaboratorLocal
  deriving DecidableEq, Repr

/-- R201, the column "class". -/
def diagClass : Diag → DiagClass
  | .partialFrame _ => .partialBuffer
  | .unknownType _ => .protocolLocal
  | .usUnknownType => .protocolLocal
  | .invalidHex _ _ => .protocolLocal
  | .dupSeparator _ => .protocolLocal
  | .killReject _ => .applicationReject
  | .checksumReject _ _ => .applicationReject
  | .ramReject _ _ => .applicationReject
  | .verifyFail _ _ => .fatalToLoad
  | .notifyReject _ => .collaboratorLocal
  | .syscallParseFail _ => .collaboratorLocal

/-- R21's encoding of the frame states. -/
def frameStateCode : FrameState → BitVec 3
  | .wait => 0#3
  | .init => 1#3
  | .payload => 2#3
  | .applicationChecksum => 3#3
  | .applicationStore => 4#3
  | .notificationSource => 5#3
  | .notificationTitle => 6#3
  | .notificationBody => 7#3

/-- R23's encoding of the message types: extension type number k is 4 + k. -/
def msgTypeCode : MsgType → Nat
  | .unknown => 0
  | .application => 1
  | .notification => 2
  | .syscall => 3
  | .ext k => 4 + k

end Sys2Proof.Machine
end

