-- ==== Sys2Proof/Safety.lean ====
section
/-! DEFINITION. What a good state is (the invariants that 10_state.md and 20_memory.md give the
block), what the environment must respect (70_reset_and_hazards.md R234 to R238), and the views in
which the statements are said. -/

namespace Sys2Proof.Machine

/-- The section indices by frame state (R26, R131, R142, R143): a separator not yet seen leaves its
index at 0, and the first ends no later than the second. -/
def indicesOk (s : State) : Prop :=
  match s.st with
  | .wait => True
  | .init => s.idx0 = 0 ∧ s.idx1 = 0 ∧ s.idx2 = 0
  | .payload => True
  | .applicationChecksum => True
  | .applicationStore => True
  | .notificationSource => s.idx0 = 0 ∧ s.idx1 = 0 ∧ s.idx2 = 0
  | .notificationTitle => s.idx1 = 0 ∧ s.idx2 = 0
  | .notificationBody => s.idx0 ≤ s.idx1 ∧ s.idx2 = 0

/-- A WRITE in progress has pushed `k` of its `n` bytes and has the rest before it (R90). -/
def producerOk (s : State) : Prop :=
  match s.producer with
  | .idle => True
  | .test _ rest n k => k + rest.length + 1 = n
  | .enqueue _ rest n k => k + rest.length + 1 = n

/-- A recorded fault names fewer accepted than requested bytes, or a data byte (R205). -/
def faultOk (s : State) : Prop :=
  match s.fault with
  | none => True
  | some (.queueOverflow n k) => k < n
  | some (.frameBufferOverflow b) => isData b = true

/-- The invariant of the block. Every step keeps it; the machine after reset has it. -/
structure BlockInv (s : State) : Prop where
  /-- R7. -/
  params : s.cfg.wf = true
  /-- R31, in the state's configuration. -/
  pair : s.pairExists = true
  /-- R23: the tag names a type that exists. -/
  type : s.ty.known s.cfg.extTypes.length = true
  /-- R29, R52. -/
  queue : s.q.length ≤ s.cfg.qcap
  /-- R24. -/
  cursor : s.wc ≤ s.cfg.fbcap
  /-- R131: nothing is stored before the type field ends. -/
  fresh : s.st = .init → s.wc = 0
  /-- R75, R181: Unknown and Application frames store nothing. -/
  bodyless : s.ty = .unknown ∨ s.ty = .application → s.wc = 0
  /-- R27. -/
  cursors : s.sc = if s.ty = .notification then s.wc else 0
  /-- R26, R27: each index is a snapshot of the section cursor. -/
  index0 : s.idx0 ≤ s.sc
  index1 : s.idx1 ≤ s.sc
  index2 : s.idx2 ≤ s.sc
  indices : indicesOk s
  /-- The storage is in canonical form. -/
  canonical : Memory.wf s.fb = true
  /-- R25, R72: every stored byte has an index below `FBCAP` and is no delimiter. -/
  stored : ∀ c ∈ s.fb, c.1 < s.cfg.fbcap ∧ isData c.2 = true
  /-- R25, R53: every byte of the frame has been written. -/
  filled : ∀ i, i < s.wc → (Memory.read s.fb i).isSome = true
  /-- R28, R72, R131: a pending character is a data byte of an Application frame past its type
  field. -/
  pending : s.hxFill = true → s.st ≠ .init ∧ s.ty = .application ∧ isData s.hxC0 = true
  writing : producerOk s
  fatal : faultOk s

/-- A context whose collaborators keep their contract (R237). -/
def Ctx.answering (ctx : Ctx) : Prop := ∀ a ∈ ctx.answers, a ≠ Answer.reenter

/-- The context of the PROCESS in progress, if one is, keeps the contract (R237). -/
def consumerAnswering (s : State) : Prop :=
  match s.consumer with
  | .idle => True
  | .running ctx _ => Ctx.answering ctx

/-- The configuration names a call for each of its extension types (R185). -/
def dispatchesAll (c : Config) : Prop :=
  ∀ k, k < c.extTypes.length → (extTarget c.extDispatch k).isSome = true

/-- The environment's next input starts no transaction that overlaps another (R236), and the
context it passes keeps the contract (R237). -/
def inputAllowed (s : State) : Prop :=
  match s.inputs with
  | [] => True
  | .write _ :: _ => s.producer = .idle
  | .process ctx :: _ => s.consumer = .idle ∧ Ctx.answering ctx
  | .reset :: _ => s.producer = .idle ∧ s.consumer = .idle
  | .writeBegin _ :: _ => s.producer = .idle
  | .processBegin ctx :: _ => s.consumer = .idle ∧ Ctx.answering ctx
  | .producer :: _ => True
  | .consumer :: _ => True

/-- What the environment and the configuration owe the block before the next step. -/
structure Contract (s : State) : Prop where
  answering : consumerAnswering s
  dispatching : dispatchesAll s.cfg
  input : inputAllowed s

/-- `s` with the draws of `n` calls used up (R186). -/
def State.advanceBy : Nat → State → State
  | 0, s => s
  | n + 1, s => State.advanceBy n s.advance

/-- The calls that hand a completed frame to a collaborator (R180, R191). -/
def isDispatchCall : Call → Bool
  | .kill _ => false
  | .writeChecksumByte _ _ => false
  | .writeRamByte _ _ => false
  | .verify _ => true
  | .status _ => false
  | .add _ _ _ _ _ => true
  | .parse _ _ => true
  | .execute _ _ => false
  | .extDispatch _ _ _ => true

/-- The dispatches among the calls made so far. -/
def State.dispatches (s : State) : List Call := s.calls.filter isDispatchCall

/-- Handle the bytes of a stream one after the other (R130). -/
def stepBytes : List Byte → State → Out
  | [], s => .next s
  | b :: rest, s => andThen (byteStep b s) (stepBytes rest)

/-- The frame registers as far as a rule reads them: the frame's bytes, and the decoder's first
character where one is pending (R25, R28, R155). -/
structure FrameView where
  st : FrameState
  ty : MsgType
  bytes : List Byte
  indices : Nat × Nat × Nat
  sc : Nat
  pending : Option Byte
  deriving DecidableEq, Repr

/-- The view of a state. -/
def State.frameView (s : State) : FrameView where
  st := s.st
  ty := s.ty
  bytes := s.frameBytes
  indices := (s.idx0, s.idx1, s.idx2)
  sc := s.sc
  pending := if s.hxFill then some s.hxC0 else none

end Sys2Proof.Machine
end

