-- ==== Sys2Proof/Certificates/Slice0/Obligations.lean ====
section
/-! DEFINITION. The statements for the provers. In the statements about one operation the
hypothesis `s.selects i = true` says that the operation map selects `i` in `s`: a PROCESS is
running, the pair (`st`, `ty`) is one R31 admits, the opcode table's guard of `i` holds, and a DATA
operand is a data byte. `s.answer = some r` says that the next collaborator call draws `r`, and
`s.advance` is `s` with that draw used up: it differs from `s` in the PROCESS's remaining answers,
or in the count of free values drawn, and in nothing else. -/

open Sys2Proof Sys2Proof.Machine

/-! ### Encoding -/

/-- 30_encoding.md R71, R73, R83: bytes written out bit by bit from the table's match column, in
the frame states and types of their rows. -/
def Obligations.WordsDecodeToTheirRows : Prop :=
  decodeByte .payload .syscall 0b00000010#8 = .stx ∧
  decodeByte .wait .syscall 0b00000011#8 = .etxWait ∧
  decodeByte .notificationBody .notification 0b00000011#8 = .etx ∧
  decodeByte .wait .unknown 0b00011111#8 = .usWait ∧
  decodeByte .init .unknown 0b00011111#8 = .usInitUnknown ∧
  decodeByte .init .application 0b00011111#8 = .usInitApplication ∧
  decodeByte .init .notification 0b00011111#8 = .usInitNotification ∧
  decodeByte .init .syscall 0b00011111#8 = .usInitSyscall ∧
  decodeByte .init (.ext 0) 0b00011111#8 = .usInitExt ∧
  decodeByte .notificationTitle .notification 0b00011111#8 = .usNotificationTitle ∧
  decodeByte .init .unknown 0b01000001#8 = .dataInit 0x41#8 ∧
  decodeByte .payload .syscall 0b11111111#8 = .dataPayload 0xFF#8 ∧
  decodeByte .applicationStore .application 0b00110000#8 = .dataApplicationStore 0x30#8

/-- 30_encoding.md R83 and the opcode table: the decoder reads back every byte handler from its
encoding, with its operand, wherever its row's guard holds, in a configuration of any number of
extension types. -/
def Obligations.DecodeOfEncodeIsTheOperation : Prop :=
  ∀ (nExt : Nat) (i : Instr) (st : FrameState) (ty : MsgType) (rest : List Byte),
    i.isHandler = true → i.wf = true → pairOk nExt st ty = true → i.guard st ty = true →
    decode nExt st ty (encode i ++ rest) = .ok (i, rest)

/-- 30_encoding.md R70 (derived by the spec from R71 and R72): every byte has one operation in every
frame state and type: exactly one well-formed row matches it. In a pair of `st` and `ty` that exists
the decoder accepts every byte; in one that 10_state.md R31 excludes, and where `ty` is an extension
type that the configuration does not have (R23), it refuses by name, whatever the byte (log 13,
42_frame_fsm.md R158). -/
def Obligations.EveryByteSelectsExactlyOneOperation : Prop :=
  ∀ (nExt : Nat) (st : FrameState) (ty : MsgType) (b : Byte),
    (∀ i : Instr, (i.wf = true ∧ i.guard st ty = true ∧ encode i = [b]) ↔ i = decodeByte st ty b) ∧
    (pairOk nExt st ty = true →
      ∀ rest, decode nExt st ty (b :: rest) = .ok (decodeByte st ty b, rest)) ∧
    (pairOk nExt st ty = false → ∀ rest, decode nExt st ty (b :: rest) = .error .unreachablePair) ∧
    (∀ k, ty = .ext k → nExt ≤ k → pairOk nExt st ty = false)

/-! ### Frame start and frame end -/

/-- 42_frame_fsm.md R131. -/
def Obligations.StxStartsAFrame : Prop :=
  ∀ s : State, s.selects .stx = true →
    exec .stx s = .next { s with
      st := .init, ty := .unknown, wc := 0, idx0 := 0, idx1 := 0, idx2 := 0, sc := 0,
      hxFill := false,
      outputs := s.outputs ++ (if s.st = .wait then [] else [.diag (.partialFrame s.st)]) }

/-- 42_frame_fsm.md R132, R134, R145. -/
def Obligations.WaitDiscardsEtxUsAndData : Prop :=
  (∀ s : State, s.selects .etxWait = true → exec .etxWait s = .next s) ∧
  (∀ s : State, s.selects .usWait = true → exec .usWait s = .next s) ∧
  (∀ (d : Byte) (s : State), s.selects (.dataWait d) = true → exec (.dataWait d) s = .next s)

/-- 43_dispatch.md R181: ETX of a frame whose type is Unknown. -/
def Obligations.EtxOfUnknownFrameDispatchesNothing : Prop :=
  ∀ s : State, s.selects .etx = true → s.ty = .unknown →
    exec .etx s = .next { s with st := .wait }

/-- 43_dispatch.md R182: on success one call; on Err the status is read once and reported, in the
order of 60_exceptions.md R209: `verify`, `status`, VERIFY_FAIL. -/
def Obligations.EtxVerifiesApplicationFrame : Prop :=
  ∀ (s : State) (r : Response), s.selects .etx = true → s.ty = .application → s.answer = some r →
    (r.isErr = false →
      exec .etx s = .next { s.advance with
        st := .wait, outputs := s.outputs ++ [.call (.verify (.ok ()))] }) ∧
    (∀ r' : Response, r.isErr = true → s.advance.answer = some r' →
      exec .etx s = .next { s.advance.advance with
        st := .wait,
        outputs := s.outputs ++
          [.call (.verify (.err ⟨r.value⟩)), .call (.status ⟨r'.value⟩),
            .diag (.verifyFail ⟨r.value⟩ ⟨r'.value⟩)] })

/-- 43_dispatch.md R183: the third index is stamped, and the frame's bytes go with the three
indices; a rejection is reported. -/
def Obligations.EtxAddsNotificationFrame : Prop :=
  ∀ (s : State) (r : Response), s.selects .etx = true → s.ty = .notification →
    s.wc ≤ s.cfg.fbcap → s.answer = some r →
    exec .etx s = .next { s.advance with
      st := .wait, idx2 := s.sc,
      outputs := s.outputs ++
        [.call (.add ((List.range s.wc).map s.fbByte) s.idx0 s.idx1 s.sc
          (if r.isErr then .err ⟨r.value⟩ else .ok ()))] ++
        (if r.isErr then [.diag (.notifyReject ⟨r.value⟩)] else []) }

/-- 43_dispatch.md R184: the frame's bytes are parsed as captured; what parses is executed. -/
def Obligations.EtxParsesSyscallFrame : Prop :=
  ∀ (s : State) (r : Response), s.selects .etx = true → s.ty = .syscall →
    s.wc ≤ s.cfg.fbcap → s.answer = some r →
    (∀ r' : Response, r.isErr = false → s.advance.answer = some r' →
      exec .etx s = .next { s.advance.advance with
        st := .wait,
        outputs := s.outputs ++
          [.call (.parse ((List.range s.wc).map s.fbByte) (.ok ⟨r.value⟩)),
            .call (.execute ⟨r.value⟩ s.ctxId)] }) ∧
    (r.isErr = true →
      exec .etx s = .next { s.advance with
        st := .wait,
        outputs := s.outputs ++
          [.call (.parse ((List.range s.wc).map s.fbByte) (.err ⟨r.value⟩)),
            .diag (.syscallParseFail ⟨r.value⟩)] })

/-- 43_dispatch.md R185: the configured call, or a refusal where the configuration names none. That
the call's answer has no effect is the model's choice (log 14). -/
def Obligations.EtxHandsExtensionFrameOver : Prop :=
  ∀ (s : State) (k : Nat), s.selects .etx = true → s.ty = .ext k →
    (∀ (op : String) (r : Response), extTarget s.cfg.extDispatch k = some op →
      s.wc ≤ s.cfg.fbcap → s.answer = some r →
      exec .etx s = .next { s.advance with
        st := .wait,
        outputs := s.outputs ++
          [.call (.extDispatch k op ((List.range s.wc).map s.fbByte))] }) ∧
    (extTarget s.cfg.extDispatch k = none → exec .etx s = .refused (.noExtDispatch k))

/-- 42_frame_fsm.md R133 and 43_dispatch.md R190: of the block's state ETX writes `st` and, for a
Notification, the third index; whatever the collaborators answer. Outputs are added, and of the
running PROCESS each call uses up one draw (R186) and nothing else moves: its identity, its control
point and the answers left are those of `advanceBy`. -/
def Obligations.EtxWritesOnlyStateAndThirdIndex : Prop :=
  ∀ s t : State, exec .etx s = .next t →
    ∃ es, (callsOf es).length ≤ 2 ∧ (diagsOf es).length ≤ 1 ∧
      t = { s.advanceBy (callsOf es).length with
        st := .wait,
        idx2 := if s.ty = .notification then s.sc else s.idx2,
        outputs := s.outputs ++ es }

/-! ### The field separator -/

/-- 42_frame_fsm.md R136. -/
def Obligations.ApplicationSeparatorKillsPriorLoad : Prop :=
  ∀ (s : State) (r : Response), s.selects .usInitApplication = true → s.answer = some r →
    (r.isErr = false →
      exec .usInitApplication s = .next { s.advance with
        st := .applicationChecksum, outputs := s.outputs ++ [.call (.kill (.ok ()))] }) ∧
    (r.isErr = true →
      exec .usInitApplication s = .next { s.advance with
        st := .wait,
        outputs := s.outputs ++
          [.call (.kill (.err ⟨r.value⟩)), .diag (.killReject ⟨r.value⟩)] })

/-- 42_frame_fsm.md R137 to R140: the separator that ends the type field of a Notification, a
Syscall and an extension type; the one inside a generic payload, which changes nothing; and the one
between an Application's checksum and firmware, which leaves the decoder as it is. -/
def Obligations.SeparatorMovesToNextField : Prop :=
  (∀ s : State, s.selects .usInitNotification = true →
    exec .usInitNotification s = .next { s with st := .notificationSource }) ∧
  (∀ s : State, s.selects .usInitSyscall = true →
    exec .usInitSyscall s = .next { s with st := .payload }) ∧
  (∀ s : State, s.selects .usInitExt = true →
    exec .usInitExt s = .next { s with st := .payload }) ∧
  (∀ s : State, s.selects .usPayload = true → exec .usPayload s = .next s) ∧
  (∀ s : State, s.selects .usApplicationChecksum = true →
    exec .usApplicationChecksum s = .next { s with st := .applicationStore })

/-- 42_frame_fsm.md R135, R141, R144: a premature or a duplicate separator ends the frame. -/
def Obligations.MisplacedSeparatorAbortsFrame : Prop :=
  (∀ s : State, s.selects .usInitUnknown = true →
    exec .usInitUnknown s = .next { s with
      st := .wait, outputs := s.outputs ++ [.diag .usUnknownType] }) ∧
  (∀ s : State, s.selects .usApplicationStore = true →
    exec .usApplicationStore s = .next { s with
      st := .wait, outputs := s.outputs ++ [.diag (.dupSeparator .applicationStore)] }) ∧
  (∀ s : State, s.selects .usNotificationBody = true →
    exec .usNotificationBody s = .next { s with
      st := .wait, outputs := s.outputs ++ [.diag (.dupSeparator .notificationBody)] })

/-- 42_frame_fsm.md R142, R143. -/
def Obligations.SeparatorRecordsSectionIndex : Prop :=
  (∀ s : State, s.selects .usNotificationSource = true →
    exec .usNotificationSource s = .next { s with st := .notificationTitle, idx0 := s.sc }) ∧
  (∀ s : State, s.selects .usNotificationTitle = true →
    exec .usNotificationTitle s = .next { s with st := .notificationBody, idx1 := s.sc })

/-! ### Data bytes -/

/-- 42_frame_fsm.md R146. -/
def Obligations.DataByteInInitIsClassified : Prop :=
  ∀ (d : Byte) (s : State), s.selects (.dataInit d) = true →
    (classify s.cfg d ≠ .unknown →
      exec (.dataInit d) s = .next { s with ty := classify s.cfg d }) ∧
    (classify s.cfg d = .unknown →
      exec (.dataInit d) s = .next { s with
        ty := .unknown, st := .wait, outputs := s.outputs ++ [.diag (.unknownType d)] })

/-- 42_frame_fsm.md R147, R148: capture below capacity, the fatal fault at capacity. -/
def Obligations.PayloadByteIsCaptured : Prop :=
  ∀ (d : Byte) (s : State), s.selects (.dataPayload d) = true →
    (s.wc < s.cfg.fbcap →
      exec (.dataPayload d) s = .next { s with
        fb := Memory.write s.fb s.wc d, wc := s.wc + 1 }) ∧
    (s.wc = s.cfg.fbcap →
      exec (.dataPayload d) s = .next { s with
        fault := if s.fault = none then some (.frameBufferOverflow d) else s.fault })

/-- 42_frame_fsm.md R149 to R151: the section cursor moves with each byte that is stored. -/
def Obligations.NotificationByteIsCaptured : Prop :=
  ∀ (d : Byte) (i : Instr) (s : State),
    i = .dataNotificationSource d ∨ i = .dataNotificationTitle d ∨ i = .dataNotificationBody d →
    s.selects i = true →
    (s.wc < s.cfg.fbcap →
      exec i s = .next { s with
        fb := Memory.write s.fb s.wc d, wc := s.wc + 1, sc := s.sc + 1 }) ∧
    (s.wc = s.cfg.fbcap →
      exec i s = .next { s with
        fault := if s.fault = none then some (.frameBufferOverflow d) else s.fault })

/-- 42_frame_fsm.md R152 with 41_classifier_hex.md R113: a first character is kept; a bad pair
aborts; a good pair is forwarded, and a rejection aborts. That `hxC0` and `hxC1` hold the pair's two
characters after it is complete is the model's reading (log 21): 93_implementation_defined.md U2
leaves them at any value there. -/
def Obligations.ChecksumCharacterIsDecoded : Prop :=
  ∀ (d : Byte) (s : State), s.selects (.dataApplicationChecksum d) = true →
    (s.hxFill = false →
      exec (.dataApplicationChecksum d) s = .next { s with hxC0 := d, hxFill := true }) ∧
    (s.hxFill = true → hexPair s.hxC0 d = none →
      exec (.dataApplicationChecksum d) s = .next { s with
        hxC1 := d, hxFill := false, st := .wait,
        outputs := s.outputs ++ [.diag (.invalidHex s.hxC0 d)] }) ∧
    (∀ (v : Byte) (r : Response), s.hxFill = true → hexPair s.hxC0 d = some v →
      s.answer = some r →
      exec (.dataApplicationChecksum d) s = .next { s.advance with
        hxC1 := d, hxFill := false,
        st := if r.isErr then .wait else s.st,
        outputs := s.outputs ++
          [.call (.writeChecksumByte v (if r.isErr then .err ⟨r.value⟩ else .ok ()))] ++
          (if r.isErr then [.diag (.checksumReject v ⟨r.value⟩)] else []) })

/-- 42_frame_fsm.md R153: the same for firmware characters, to `write_ram_byte`; `hxC0` and `hxC1`
after a completed pair are again the model's reading (log 21; U2 leaves them at any value). -/
def Obligations.FirmwareCharacterIsDecoded : Prop :=
  ∀ (d : Byte) (s : State), s.selects (.dataApplicationStore d) = true →
    (s.hxFill = false →
      exec (.dataApplicationStore d) s = .next { s with hxC0 := d, hxFill := true }) ∧
    (s.hxFill = true → hexPair s.hxC0 d = none →
      exec (.dataApplicationStore d) s = .next { s with
        hxC1 := d, hxFill := false, st := .wait,
        outputs := s.outputs ++ [.diag (.invalidHex s.hxC0 d)] }) ∧
    (∀ (v : Byte) (r : Response), s.hxFill = true → hexPair s.hxC0 d = some v →
      s.answer = some r →
      exec (.dataApplicationStore d) s = .next { s.advance with
        hxC1 := d, hxFill := false,
        st := if r.isErr then .wait else s.st,
        outputs := s.outputs ++
          [.call (.writeRamByte v (if r.isErr then .err ⟨r.value⟩ else .ok ()))] ++
          (if r.isErr then [.diag (.ramReject v ⟨r.value⟩)] else []) })

/-! ### The classifier and the hex digits -/

/-- 30_encoding.md R73: the canonical table, every byte of it. -/
def Obligations.CanonicalTypeSelectors : Prop :=
  ∀ b : Byte, classify Config.canonical b =
    if b = 0x41#8 then .application
    else if b = 0x4E#8 then .notification
    else if b = 0x53#8 then .syscall
    else .unknown

/-- 30_encoding.md R79: the 22 hex digits and their values, and no other byte. -/
def Obligations.HexDigitsAndTheirValues : Prop :=
  ∀ c : Byte,
    (0x30 ≤ c.toNat ∧ c.toNat ≤ 0x39 → ∃ v, hexval c = some v ∧ v.toNat = c.toNat - 0x30) ∧
    (0x41 ≤ c.toNat ∧ c.toNat ≤ 0x46 → ∃ v, hexval c = some v ∧ v.toNat = 10 + (c.toNat - 0x41)) ∧
    (0x61 ≤ c.toNat ∧ c.toNat ≤ 0x66 → ∃ v, hexval c = some v ∧ v.toNat = 10 + (c.toNat - 0x61)) ∧
    (¬ (0x30 ≤ c.toNat ∧ c.toNat ≤ 0x39) → ¬ (0x41 ≤ c.toNat ∧ c.toNat ≤ 0x46) →
      ¬ (0x61 ≤ c.toNat ∧ c.toNat ≤ 0x66) → hexval c = none)

/-- 30_encoding.md R80: a pair is 16 times its first digit and its second; the first supplies the
high nibble. -/
def Obligations.HexPairIsHighNibbleFirst : Prop :=
  ∀ c0 c1 : Byte,
    (∀ h l : BitVec 4, hexval c0 = some h → hexval c1 = some l →
      ∃ v : Byte, hexPair c0 c1 = some v ∧ v.toNat = 16 * h.toNat + l.toNat ∧
        v.extractLsb' 4 4 = h ∧ v.extractLsb' 0 4 = l) ∧
    (hexval c0 = none ∨ hexval c1 = none → hexPair c0 c1 = none)

/-! ### The port transactions -/

/-- 40_queue_ops.md R92: with no pop in between, a WRITE overflows exactly at the capacity
boundary; the bytes before the boundary are pushed in order. Everything else stays. -/
def Obligations.WriteOverflowsExactlyAtCapacity : Prop :=
  ∀ (bytes : List Byte) (s : State), s.producer = .idle → s.fault = none →
    s.q.length ≤ s.cfg.qcap →
    (s.q.length + bytes.length ≤ s.cfg.qcap →
      exec (.write bytes) s = .next { s with
        q := s.q ++ bytes, results := s.results ++ [.writeOk] }) ∧
    (s.cfg.qcap < s.q.length + bytes.length →
      exec (.write bytes) s = .next { s with
        q := s.q ++ bytes.take (s.cfg.qcap - s.q.length),
        fault := some (.queueOverflow bytes.length (s.cfg.qcap - s.q.length)),
        results := s.results ++ [.writeOverflow bytes.length (s.cfg.qcap - s.q.length)] })

/-- 40_queue_ops.md R91: EnqueueByte, one atomic step of the producer: at capacity the fault and no
push, below it the push. Two clauses are the model's choice and no rule's: that the WRITE ends, with
its result, in the same step as its last push or its overflow (log 25), and that an EnqueueByte whose
fault test is passed pushes although the consumer has recorded a fault in between (log 8). -/
def Obligations.EnqueueByteTestsAndPushes : Prop :=
  ∀ (s : State) (b : Byte) (rest : List Byte) (n k : Nat), s.producer = .enqueue b rest n k →
    (s.q.length = s.cfg.qcap →
      producerAdvance s = .next { s with
        fault := if s.fault = none then some (.queueOverflow n k) else s.fault,
        producer := .idle, results := s.results ++ [.writeOverflow n k] }) ∧
    (s.q.length < s.cfg.qcap → ∃ t, producerAdvance s = .next t ∧
      t = { s with q := s.q ++ [b], producer := t.producer, results := t.results } ∧
      (rest = [] → t.producer = .idle ∧ t.results = s.results ++ [.writeOk]) ∧
      (∀ b' rest', rest = b' :: rest' →
        t.producer = .test b' rest' n (k + 1) ∧ t.results = s.results))

/-- 40_queue_ops.md R93: a WRITE on a halted engine, and a WRITE whose engine is halted meanwhile: that
its result comes out in the step of the test that finds the fault is the model's choice (log 25). -/
def Obligations.WriteWhileHaltedDoesNothing : Prop :=
  (∀ (bytes : List Byte) (s : State), s.producer = .idle → s.fault ≠ none →
    exec (.write bytes) s = .next { s with results := s.results ++ [.writeHalted] }) ∧
  (∀ (s : State) (b : Byte) (rest : List Byte) (n k : Nat), s.producer = .test b rest n k →
    s.fault ≠ none →
    producerAdvance s = .next { s with
      producer := .idle, results := s.results ++ [.writeHalted] })

/-- 40_queue_ops.md R96, the whole PROCESS; and R94, in an interleaved one whatever pop finds the queue
empty: that the PROCESS is over with its result in the step of that pop is the model's choice and no
rule's (log 25, DESIGN CHOICE). -/
def Obligations.ProcessOnEmptyQueueIsNoOp : Prop :=
  (∀ (ctx : Ctx) (s : State), s.consumer = .idle → s.fault = none → s.q = [] →
    exec (.process ctx) s = .next { s with results := s.results ++ [.processOk] }) ∧
  (∀ (ctx : Ctx) (s : State), s.consumer = .running ctx .pop → s.fault = none → s.q = [] →
    consumerAdvance s = .next { s with
      consumer := .idle, results := s.results ++ [.processOk] })

/-- 40_queue_ops.md R97 at the start of a PROCESS and at the top of a later iteration, and
60_exceptions.md R206: the PROCESS returns `Halted` without a pop also where the fault falls between
its test and its pop (log 8). That it is over with its result in the step that finds the fault is the
model's choice (log 25). On a halted engine no step of the machine but a RESET pops a byte, makes
a call, emits an event or writes a frame register. -/
def Obligations.ProcessWhileHaltedDoesNothing : Prop :=
  (∀ (ctx : Ctx) (s : State), s.consumer = .idle → s.fault ≠ none →
    exec (.process ctx) s = .next { s with results := s.results ++ [.processHalted] }) ∧
  (∀ (ctx : Ctx) (ph : Phase) (s : State), s.consumer = .running ctx ph → s.fault ≠ none →
    consumerAdvance s = .next { s with
      consumer := .idle, results := s.results ++ [.processHalted] }) ∧
  (∀ s t : State, s.fault ≠ none → (∀ rest, s.inputs ≠ .reset :: rest) → step s = .next t →
    (∃ pushed, t.q = s.q ++ pushed) ∧
    t = { s with
      q := t.q, producer := t.producer, consumer := t.consumer, inputs := t.inputs,
      results := t.results, drawn := t.drawn })

/-- 40_queue_ops.md R94: one iteration of PROCESS's loop on a non-empty queue: pop, Step, and the
rest of the loop with the context as the Step left it. A Step that stops ends it so. -/
def Obligations.ProcessIsALoopOfPopAndStep : Prop :=
  ∀ (ctx : Ctx) (s : State) (b : Byte) (rest : List Byte), s.consumer = .idle → s.fault = none →
    s.q = b :: rest →
    (∀ u, byteStep b { s with q := rest, consumer := .running ctx .pop } = .next u →
      ∃ ctx', u.consumer = .running ctx' .pop ∧
        exec (.process ctx) s = exec (.process ctx') { u with consumer := .idle }) ∧
    (∀ r, byteStep b { s with q := rest, consumer := .running ctx .pop } = .refused r →
      exec (.process ctx) s = .refused r) ∧
    (∀ f, byteStep b { s with q := rest, consumer := .running ctx .pop } = .fault f →
      exec (.process ctx) s = .fault f)

/-- 40_queue_ops.md R94, R98: with no producer step in between, a PROCESS ends: it has drained the
queue, or a fault has halted the engine. `dispatchesAll` and `answering` are the environment's
part (R185, R237). -/
def Obligations.ProcessReturnsAfterDraining : Prop :=
  ∀ (ctx : Ctx) (s : State), s.consumer = .idle → BlockInv s → dispatchesAll s.cfg →
    Ctx.answering ctx →
    ∃ t popped, exec (.process ctx) s = .next t ∧ s.q = popped ++ t.q ∧ t.consumer = .idle ∧
      t.producer = s.producer ∧ t.inputs = s.inputs ∧ t.cfg = s.cfg ∧
      ((t.fault = none ∧ t.q = [] ∧ t.results = s.results ++ [.processOk]) ∨
        (t.fault ≠ none ∧ t.results = s.results ++ [.processHalted]))

/-- 70_reset_and_hazards.md R230: the elements at the values of R34; `fb` and the decoder's
characters are free values (log 3), so nothing is said of them. No output. Refused while a
transaction is in progress. -/
def Obligations.ResetRestoresTheBlock : Prop :=
  (∀ s : State, s.producer = .idle → s.consumer = .idle →
    ∃ t, exec .reset s = .next t ∧
      t.q = [] ∧ t.st = .wait ∧ t.ty = .unknown ∧ t.wc = 0 ∧ t.sc = 0 ∧
      t.idx0 = 0 ∧ t.idx1 = 0 ∧ t.idx2 = 0 ∧ t.hxFill = false ∧ t.fault = none ∧
      t.cfg = s.cfg ∧ t.producer = .idle ∧ t.consumer = .idle ∧ t.inputs = s.inputs ∧
      t.outputs = s.outputs ∧ t.results = s.results) ∧
  (∀ s : State, s.producer ≠ .idle ∨ s.consumer ≠ .idle →
    exec .reset s = .refused .overlappingReset)

/-- 10_state.md R34 and 70_reset_and_hazards.md R231: the machine after reset, every element for
which R34 gives a value. -/
def Obligations.StateAfterResetIsAsSpecified : Prop :=
  State.reset.q = [] ∧ State.reset.st = .wait ∧ State.reset.ty = .unknown ∧
  State.reset.wc = 0 ∧ State.reset.sc = 0 ∧ State.reset.idx0 = 0 ∧ State.reset.idx1 = 0 ∧
  State.reset.idx2 = 0 ∧ State.reset.hxFill = false ∧ State.reset.fault = none

/-! ### What is refused -/

/-- 70_reset_and_hazards.md R236. -/
def Obligations.OverlappingTransactionsAreRefused : Prop :=
  (∀ (bytes : List Byte) (s : State), s.producer ≠ .idle →
    exec (.write bytes) s = .refused .overlappingWrite ∧
    beginWrite bytes s = .refused .overlappingWrite) ∧
  (∀ (ctx : Ctx) (s : State), s.consumer ≠ .idle →
    exec (.process ctx) s = .refused .overlappingProcess ∧
    beginProcess ctx s = .refused .overlappingProcess) ∧
  (∀ s : State, s.producer ≠ .idle ∨ s.consumer ≠ .idle →
    exec .reset s = .refused .overlappingReset)

/-- 70_reset_and_hazards.md R237 (log 18): every call that a handler makes, the first or a second
one, is refused where the collaborator re-enters instead of answering. -/
def Obligations.CollaboratorReentryIsRefused : Prop :=
  (∀ s : State, s.selects .usInitApplication = true → s.answer = none →
    exec .usInitApplication s = .refused .collaboratorReentry) ∧
  (∀ s : State, s.selects .etx = true → s.wc ≤ s.cfg.fbcap → s.answer = none →
    (s.ty = .application ∨ s.ty = .notification ∨ s.ty = .syscall ∨
      (∃ k op, s.ty = .ext k ∧ extTarget s.cfg.extDispatch k = some op)) →
    exec .etx s = .refused .collaboratorReentry) ∧
  (∀ (s : State) (r : Response), s.selects .etx = true → s.wc ≤ s.cfg.fbcap →
    s.answer = some r → s.advance.answer = none →
    (s.ty = .application ∧ r.isErr = true) ∨ (s.ty = .syscall ∧ r.isErr = false) →
    exec .etx s = .refused .collaboratorReentry) ∧
  (∀ (i : Instr) (s : State) (d v : Byte),
    i = .dataApplicationChecksum d ∨ i = .dataApplicationStore d → s.selects i = true →
    s.hxFill = true → hexPair s.hxC0 d = some v → s.answer = none →
    exec i s = .refused .collaboratorReentry)

/-- Log 12, log 13 and log 17, the model's own stops: a handler that the map does not select; a
state with a pair that R31 excludes (42_frame_fsm.md R158), at a step and at a pop, such a pair being
also any frame state with an extension type that the configuration does not have; and accesses outside the storages, which no state that meets the invariant makes: an append with `wc` above
`FBCAP`, a dispatch that reads the frame's bytes above it, a push above `QCAP`. -/
def Obligations.UnselectedExcludedAndAbsentStop : Prop :=
  (∀ (i : Instr) (s : State), i.isHandler = true → s.selects i = false →
    exec i s = .refused .notSelected) ∧
  (∀ s : State, s.pairExists = false → step s = .refused .unreachablePair) ∧
  (∀ (b : Byte) (s : State), s.pairExists = false →
    byteStep b s = .refused .unreachablePair) ∧
  (∀ (s : State) (k : Nat), s.ty = .ext k → s.cfg.extTypes.length ≤ k → s.pairExists = false) ∧
  (∀ (d : Byte) (i : Instr) (s : State),
    i = .dataPayload d ∨ i = .dataNotificationSource d ∨ i = .dataNotificationTitle d ∨
      i = .dataNotificationBody d →
    s.selects i = true → s.cfg.fbcap < s.wc → exec i s = .fault (.frameBufferIndex s.wc)) ∧
  (∀ s : State, s.selects .etx = true →
    s.ty = .notification ∨ s.ty = .syscall ∨
      (∃ k op, s.ty = .ext k ∧ extTarget s.cfg.extDispatch k = some op) →
    s.cfg.fbcap < s.wc → exec .etx s = .fault (.frameBufferIndex s.cfg.fbcap)) ∧
  (∀ (s : State) (b : Byte) (rest : List Byte) (n k : Nat), s.producer = .enqueue b rest n k →
    s.cfg.qcap < s.q.length → producerAdvance s = .fault .queueCapacity)

/-! ### Frames: what a handler leaves as it was -/

/-- 10_state.md R36, the columns of `q`, `st` and `ty`, with what is no state of the block: the
parameters, the producer, the inputs and the port results. -/
def Obligations.HandlersKeepQueueStateAndType : Prop :=
  ∀ (i : Instr) (s t : State), i.isHandler = true → exec i s = .next t →
    t.q = s.q ∧ t.cfg = s.cfg ∧ t.producer = s.producer ∧ t.inputs = s.inputs ∧
    t.results = s.results ∧ t.fbBase = s.fbBase ∧
    (i = .etxWait ∨ i = .usWait ∨ i = .usPayload ∨ (∃ d, i = .dataWait d) ∨
      (∃ d, i = .dataPayload d) ∨ (∃ d, i = .dataNotificationSource d) ∨
      (∃ d, i = .dataNotificationTitle d) ∨ (∃ d, i = .dataNotificationBody d) → t.st = s.st) ∧
    (i ≠ .stx → (∀ d, i ≠ .dataInit d) → t.ty = s.ty)

/-- 10_state.md R36, the columns of `wc`, `fb`, `idx` and `sc`: every byte of the Frame Buffer
reads as before but the one that an append stores, at index `wc`. -/
def Obligations.HandlersKeepFrameBufferAndCursors : Prop :=
  ∀ (i : Instr) (s t : State), i.isHandler = true → exec i s = .next t →
    ((∀ d, i ≠ .dataPayload d) → (∀ d, i ≠ .dataNotificationSource d) →
      (∀ d, i ≠ .dataNotificationTitle d) → (∀ d, i ≠ .dataNotificationBody d) →
      (∀ a, t.fbByte a = s.fbByte a) ∧ (i ≠ .stx → t.wc = s.wc ∧ t.sc = s.sc)) ∧
    (∀ a, a ≠ s.wc → t.fbByte a = s.fbByte a) ∧
    ((∃ d, i = .dataPayload d) → t.sc = s.sc) ∧
    (i ≠ .stx → i ≠ .usNotificationSource → t.idx0 = s.idx0) ∧
    (i ≠ .stx → i ≠ .usNotificationTitle → t.idx1 = s.idx1) ∧
    (i ≠ .stx → ¬ (i = .etx ∧ s.ty = .notification) → t.idx2 = s.idx2)

/-- 10_state.md R36, the columns of the decoder and of `fault`; the outputs, to which a handler only
adds; and the running PROCESS, of which each call uses up one draw (43_dispatch.md R186) and nothing
else moves: not its identity, not its control point. -/
def Obligations.HandlersKeepDecoderAndFault : Prop :=
  ∀ (i : Instr) (s t : State), i.isHandler = true → exec i s = .next t →
    ((∀ d, i ≠ .dataApplicationChecksum d) → (∀ d, i ≠ .dataApplicationStore d) →
      t.hxC0 = s.hxC0 ∧ t.hxC1 = s.hxC1 ∧ (i ≠ .stx → t.hxFill = s.hxFill)) ∧
    ((∀ d, i ≠ .dataPayload d) → (∀ d, i ≠ .dataNotificationSource d) →
      (∀ d, i ≠ .dataNotificationTitle d) → (∀ d, i ≠ .dataNotificationBody d) →
      t.fault = s.fault) ∧
    (∃ es, t.outputs = s.outputs ++ es ∧
      t.consumer = (s.advanceBy (callsOf es).length).consumer ∧
      t.drawn = (s.advanceBy (callsOf es).length).drawn) ∧
    (∀ ctx ph, s.consumer = .running ctx ph →
      ∃ left, t.consumer = .running ⟨ctx.id, left⟩ ph ∧ left <:+ ctx.answers)

/-- 60_exceptions.md R212 and 20_memory.md R62: a step of the producer writes the queue (at its
tail), the fault register and its own transaction, and nothing else. -/
def Obligations.ProducerTouchesOnlyQueueAndFault : Prop :=
  ∀ s t : State, producerAdvance s = .next t →
    t = { s with q := t.q, fault := t.fault, producer := t.producer, results := t.results } ∧
    (t.q = s.q ∨ ∃ b rest n k, s.producer = .enqueue b rest n k ∧ t.q = s.q ++ [b]) ∧
    (∀ f, s.fault = some f → t.fault = some f)

/-! ### Whole-machine rules -/

/-- The machine after reset meets the invariant. -/
def Obligations.ResetStateMeetsInvariant : Prop := BlockInv State.reset

/-- 10_state.md R24, R26, R27, R28, R29, R31 and 20_memory.md R52, R53: every step keeps the
invariant: the bounds, the cursors, the indices, the pairs, the canonical storage that holds no
delimiter, the pending character. -/
def Obligations.EveryStepKeepsInvariant : Prop :=
  ∀ s t : State, BlockInv s → step s = .next t → BlockInv t

/-- 20_memory.md R52, R53: no step from a state that meets the invariant makes an access outside
the storages. -/
def Obligations.NoStepAccessesAbsentStorage : Prop :=
  ∀ (s : State) (f : Fault), BlockInv s → step s ≠ .fault f

/-- Where the environment keeps its part (R185, R236, R237), every step answers a next state: the
machine never stops, whatever bytes arrive and whatever the collaborators answer. -/
def Obligations.EveryStepAnswersNext : Prop :=
  ∀ s : State, BlockInv s → Contract s → ∃ t, step s = .next t

/-- 00_scope.md R7: the parameters are fixed. -/
def Obligations.NoStepChangesParameters : Prop :=
  ∀ s t : State, step s = .next t → t.cfg = s.cfg

/-- 60_exceptions.md R207: no step but a RESET clears the fault register or overwrites it, and a
RESET clears it. -/
def Obligations.FaultIsStickyUntilReset : Prop :=
  (∀ (s t : State) (f : FatalFault), s.fault = some f → step s = .next t →
    (∀ rest, s.inputs ≠ .reset :: rest) → t.fault = some f) ∧
  (∀ (s : State) (rest : List Input), s.pairExists = true → s.producer = .idle →
    s.consumer = .idle → s.inputs = .reset :: rest → ∃ t, step s = .next t ∧ t.fault = none)

/-- 60_exceptions.md R209: a handler emits at most one event, after the calls it makes; one that
raises a fault emits none and makes no call (R206); an Application data byte makes one call at most,
and none where it raises INVALID_HEX. -/
def Obligations.AtMostOneDiagnosticPerStep : Prop :=
  ∀ (i : Instr) (s t : State), i.isHandler = true → exec i s = .next t →
    ∃ cs ds, t.outputs = s.outputs ++ cs.map .call ++ ds.map .diag ∧ ds.length ≤ 1 ∧
      (t.fault ≠ s.fault → cs = [] ∧ ds = []) ∧
      (∀ d, i = .dataApplicationChecksum d ∨ i = .dataApplicationStore d →
        cs.length ≤ 1 ∧ (∀ c0 c1, ds = [.invalidHex c0 c1] → cs = []))

/-- 43_dispatch.md R191: a completed frame of a known type is dispatched exactly once; no other
handler dispatches. -/
def Obligations.ExactlyOneDispatchPerCompletedFrame : Prop :=
  ∀ (i : Instr) (s t : State), i.isHandler = true → exec i s = .next t →
    (i = .etx ∧ s.ty ≠ .unknown → ∃ c, t.dispatches = s.dispatches ++ [c] ∧
      (s.ty = .application → ∃ r, c = .verify r) ∧
      (s.ty = .notification → ∃ bytes a0 a1 a2 r, c = .add bytes a0 a1 a2 r) ∧
      (s.ty = .syscall → ∃ text r, c = .parse text r) ∧
      (∀ k, s.ty = .ext k → ∃ op bytes, c = .extDispatch k op bytes)) ∧
    (¬ (i = .etx ∧ s.ty ≠ .unknown) → t.dispatches = s.dispatches)

/-- 20_memory.md R51: whatever the step, the queue changes only by bytes put at its tail or by
bytes taken from its head (all of them, where a RESET discards it). -/
def Obligations.QueueIsFirstInFirstOut : Prop :=
  ∀ s t : State, step s = .next t →
    (∃ pushed, t.q = s.q ++ pushed) ∨ (∃ popped, s.q = popped ++ t.q)

/-- 42_frame_fsm.md R154, 10_state.md R23: Init is entered only by STX, and the type changes only
by STX and by a data byte in Init. -/
def Obligations.InitIsEnteredOnlyByStx : Prop :=
  ∀ (i : Instr) (s t : State), i.isHandler = true → exec i s = .next t →
    (s.st ≠ .init → t.st = .init → i = .stx) ∧
    (t.ty ≠ s.ty → i = .stx ∨ ∃ d, i = .dataInit d)

/-- 60_exceptions.md R208: in Wait the block discards everything but STX. -/
def Obligations.WaitLastsUntilStx : Prop :=
  ∀ (bs : List Byte) (s : State), s.st = .wait → s.pairExists = true → s.consuming = true →
    (∀ b ∈ bs, b ≠ 0x02#8) →
    stepBytes bs s = .next s

/-- 42_frame_fsm.md R155: with the configuration and the responses fixed, the frame registers and
the outputs are a function of the bytes since the last STX. Of the decoder's characters only a
pending one counts (R28: the others are unobservable). -/
def Obligations.FrameIsAFunctionOfBytesSinceStx : Prop :=
  ∀ (s1 s2 u1 u2 : State) (bs : List Byte), s1.cfg = s2.cfg → s1.consumer = s2.consumer →
    s1.drawn = s2.drawn → exec .stx s1 = .next u1 → exec .stx s2 = .next u2 →
    (∃ t1 t2 es, stepBytes bs u1 = .next t1 ∧ stepBytes bs u2 = .next t2 ∧
      t1.frameView = t2.frameView ∧
      t1.outputs = u1.outputs ++ es ∧ t2.outputs = u2.outputs ++ es) ∨
    (∃ r, stepBytes bs u1 = .refused r ∧ stepBytes bs u2 = .refused r)

/-- 43_dispatch.md R184, R191 and 95_test_vectors.md L1.1: a Syscall frame with any body of data
bytes that fits is parsed once, verbatim, and executed where it parses. `c` is a selector that the
configuration classifies as Syscall. -/
def Obligations.SyscallFrameIsParsedVerbatim : Prop :=
  ∀ (s : State) (ctx : Ctx) (c : Byte) (body : List Byte), s.consumer = .idle →
    s.fault = none → s.pairExists = true → isData c = true →
    classify s.cfg c = .syscall → (∀ b ∈ body, isData b = true) →
    body.length ≤ s.cfg.fbcap → Ctx.answering ctx →
    s.q = [0x02#8, c, 0x1F#8] ++ body ++ [0x03#8] →
    ∃ t r, exec (.process ctx) s = .next t ∧ t.q = [] ∧ t.st = .wait ∧ t.fault = none ∧
      t.results = s.results ++ [.processOk] ∧
      t.outputs = s.outputs ++ (if s.st = .wait then [] else [.diag (.partialFrame s.st)]) ++
        [.call (.parse body r)] ++
        (match r with
          | .ok cmd => [.call (.execute cmd ctx.id)]
          | .err e => [.diag (.syscallParseFail e)])

/-- 43_dispatch.md R183 and 95_test_vectors.md L1.3: a Notification frame's three fields arrive as
one sequence of bytes with their cumulative lengths; a rejection is reported. -/
def Obligations.NotificationFrameCarriesSections : Prop :=
  ∀ (s : State) (ctx : Ctx) (c : Byte) (src title body : List Byte), s.consumer = .idle →
    s.fault = none → s.pairExists = true → isData c = true →
    classify s.cfg c = .notification → (∀ b ∈ src ++ title ++ body, isData b = true) →
    (src ++ title ++ body).length ≤ s.cfg.fbcap → Ctx.answering ctx →
    s.q = [0x02#8, c, 0x1F#8] ++ src ++ [0x1F#8] ++ title ++ [0x1F#8] ++ body ++ [0x03#8] →
    ∃ t r, exec (.process ctx) s = .next t ∧ t.q = [] ∧ t.st = .wait ∧ t.fault = none ∧
      t.results = s.results ++ [.processOk] ∧
      t.outputs = s.outputs ++ (if s.st = .wait then [] else [.diag (.partialFrame s.st)]) ++
        [.call (.add (src ++ title ++ body) src.length (src.length + title.length)
          (src.length + title.length + body.length) r)] ++
        (match r with
          | .ok _ => []
          | .err e => [.diag (.notifyReject e)])

/-- 30_encoding.md R75 and 95_test_vectors.md L1.4: an Application frame's pairs are decoded in wire
order, the checksum's to one sink and the firmware's to the other, between `kill` and `verify`. Each
triple is a pair's two characters and its value; the collaborator answers Ok to every call. -/
def Obligations.ApplicationFrameIsDecodedInOrder : Prop :=
  ∀ (s : State) (ctx : Ctx) (c : Byte) (sum firmware : List (Byte × Byte × Byte)),
    s.consumer = .idle → s.fault = none → s.pairExists = true → isData c = true →
    classify s.cfg c = .application →
    (∀ p ∈ sum ++ firmware, hexPair p.1 p.2.1 = some p.2.2) →
    (∀ a ∈ ctx.answers, ∃ r : Response, a = .respond r ∧ r.isErr = false) →
    sum.length + firmware.length + 2 ≤ ctx.answers.length →
    s.q = [0x02#8, c, 0x1F#8] ++ sum.flatMap (fun p => [p.1, p.2.1]) ++ [0x1F#8] ++
      firmware.flatMap (fun p => [p.1, p.2.1]) ++ [0x03#8] →
    ∃ t, exec (.process ctx) s = .next t ∧ t.q = [] ∧ t.st = .wait ∧ t.fault = none ∧
      t.results = s.results ++ [.processOk] ∧ t.wc = 0 ∧
      t.outputs = s.outputs ++ (if s.st = .wait then [] else [.diag (.partialFrame s.st)]) ++
        [.call (.kill (.ok ()))] ++
        sum.map (fun p => .call (.writeChecksumByte p.2.2 (.ok ()))) ++
        firmware.map (fun p => .call (.writeRamByte p.2.2 (.ok ()))) ++
        [.call (.verify (.ok ()))]

/-! ### Storage -/

/-- 20_memory.md R53: FbRead returns the byte last written at the index, and a write keeps the
canonical form, so equal storages are equal data. -/
def Obligations.FrameBufferReadsLastWrite : Prop :=
  ∀ (s t : State) (i : Nat) (b : Byte), fbWrite i b s = .next t →
    t.fbByte i = b ∧ (∀ j, j ≠ i → t.fbByte j = s.fbByte j) ∧
    (Memory.wf s.fb = true → Memory.wf t.fb = true) ∧ t = { s with fb := t.fb }

/-! ### Steps and interleavings -/

/-- 42_frame_fsm.md R130 and 40_queue_ops.md R95: where a PROCESS is at its pop, no fault is
recorded (60_exceptions.md R206) and the consumer moves, the step is `exec` of the operation that the
head of the queue decodes to, on the state with that byte popped; then the PROCESS is at the top of
its loop. When the consumer moves is the model's choice (log 7): where the next input says so, or
where none waits and no WRITE is in progress. -/
def Obligations.StepRunsDecodedByte : Prop :=
  ∀ (s : State) (ctx : Ctx) (b : Byte) (rest : List Byte), s.pairExists = true →
    s.fault = none → s.consumer = .running ctx .pop → s.q = b :: rest →
    (∀ ins, s.inputs = .consumer :: ins →
      step s = andThen (exec (decodeByte s.st s.ty b) { s with q := rest, inputs := ins })
        (fun t => .next (nextIteration t))) ∧
    (s.inputs = [] → s.producer = .idle →
      step s = andThen (exec (decodeByte s.st s.ty b) { s with q := rest })
        (fun t => .next (nextIteration t)))

/-- 00_scope.md R2, 40_queue_ops.md R90 and R94, 60_exceptions.md R210 and R216. What a step does with
each input: a whole transaction runs as `exec` says; a begun one stands at its first control point; a
step of an agent is that agent's next action, of which the loops' passed fault tests and the pop of an
empty queue are said here (the rest: EnqueueByteTestsAndPushes, WriteWhileHaltedDoesNothing,
ProcessWhileHaltedDoesNothing, StepRunsDecodedByte, OverlappingTransactionsAreRefused). With no input
an agent in a transaction goes on with it, and where both are a free value chooses; an idle block
does nothing. That a WRITE begun on a halted engine returns at once is 40_queue_ops.md R93's; who moves
is the model's choice (log 7, log 24), and so are that a WRITE of no bytes returns at its begin and
that a PROCESS that finds the queue empty is over with its result in the step of that pop (log 25). -/
def Obligations.StepRunsPortTransactions : Prop :=
  ∀ (s : State) (ins : List Input), s.pairExists = true →
    (∀ bytes, s.inputs = .write bytes :: ins →
      step s = exec (.write bytes) { s with inputs := ins }) ∧
    (∀ ctx, s.inputs = .process ctx :: ins →
      step s = exec (.process ctx) { s with inputs := ins }) ∧
    (s.inputs = .reset :: ins → step s = exec .reset { s with inputs := ins }) ∧
    (∀ bytes, s.inputs = .writeBegin bytes :: ins →
      step s = beginWrite bytes { s with inputs := ins } ∧
      (s.producer = .idle → s.fault ≠ none →
        step s = .next { s with inputs := ins, results := s.results ++ [.writeHalted] }) ∧
      (s.producer = .idle → s.fault = none → bytes = [] →
        step s = .next { s with inputs := ins, results := s.results ++ [.writeOk] }) ∧
      (∀ b rest, s.producer = .idle → s.fault = none → bytes = b :: rest →
        step s = .next { s with inputs := ins, producer := .test b rest bytes.length 0 })) ∧
    (∀ ctx, s.inputs = .processBegin ctx :: ins →
      step s = beginProcess ctx { s with inputs := ins } ∧
      (s.consumer = .idle →
        step s = .next { s with inputs := ins, consumer := .running ctx .test })) ∧
    (s.inputs = .producer :: ins →
      step s = producerAdvance { s with inputs := ins } ∧
      (s.producer = .idle → step s = .next { s with inputs := ins }) ∧
      (∀ b rest n k, s.producer = .test b rest n k → s.fault = none →
        step s = .next { s with inputs := ins, producer := .enqueue b rest n k })) ∧
    (s.inputs = .consumer :: ins →
      step s = consumerAdvance { s with inputs := ins } ∧
      (s.consumer = .idle → step s = .next { s with inputs := ins }) ∧
      (∀ ctx, s.consumer = .running ctx .test → s.fault = none →
        step s = .next { s with inputs := ins, consumer := .running ctx .pop }) ∧
      (∀ ctx, s.consumer = .running ctx .pop → s.fault = none → s.q = [] →
        step s = .next { s with
          inputs := ins, consumer := .idle, results := s.results ++ [.processOk] })) ∧
    (s.inputs = [] →
      (s.producer = .idle → s.consumer = .idle → step s = .next s) ∧
      (s.producer ≠ .idle → s.consumer = .idle → step s = producerAdvance s) ∧
      (s.producer = .idle → s.consumer ≠ .idle → step s = consumerAdvance s) ∧
      (s.producer ≠ .idle → s.consumer ≠ .idle →
        step s =
          if Config.freeTurn s.drawn then producerAdvance { s with drawn := s.drawn + 1 }
          else consumerAdvance { s with drawn := s.drawn + 1 }))

/-- 40_queue_ops.md R90, R94 (log 9): a WRITE that is begun and then moved by producer steps alone
ends as the whole WRITE does, and a PROCESS that is begun and then moved by consumer steps alone ends
as the whole PROCESS does, a stop of a handler included. The PROCESS's type table names only types
that exist (00_scope.md R7), so that no byte leads to a pair that a later step refuses (R158). -/
def Obligations.SteppedTransactionIsTheWholeOne : Prop :=
  (∀ (bytes : List Byte) (s : State), s.pairExists = true → s.producer = .idle →
    Sys2Proof.core.run (1 + 2 * bytes.length)
      { s with inputs := .writeBegin bytes :: List.replicate (2 * bytes.length) .producer }
      = exec (.write bytes) { s with inputs := [] }) ∧
  (∀ (ctx : Ctx) (s : State), s.cfg.wf = true → s.pairExists = true → s.consumer = .idle →
    Sys2Proof.core.run (1 + 2 * (s.q.length + 1))
      { s with inputs := .processBegin ctx :: List.replicate (2 * (s.q.length + 1)) .consumer }
      = exec (.process ctx) { s with inputs := [] })

/-- 20_memory.md R58: a byte of a WRITE that is called while a PROCESS runs may be consumed by that
PROCESS or be left to a later one: both happen, with the same inputs in another order. In the first
run the byte is pushed before the PROCESS's last pop, in the second after it. Two choices of the
model's, and no rule's, are in both clauses: the inputs that order the two agents' atomic steps
(log 7, DESIGN CHOICE), and that the WRITE is over with `Ok` in the step of its last push and the
PROCESS with `Ok` in the step of its last pop (log 25, DESIGN CHOICE), which fixes the order of the two
results. -/
def Obligations.ByteWrittenDuringProcessMayGoEitherWay : Prop :=
  ∀ (s : State) (ctx : Ctx) (a b : Byte), s.st = .wait → s.pairExists = true →
    s.consumer = .idle → s.producer = .idle → s.fault = none → s.q = [a] → isData a = true → isData b = true →
    1 ≤ s.cfg.qcap →
    (∃ t, Sys2Proof.core.run 10 { s with inputs :=
        [.processBegin ctx, .consumer, .consumer, .consumer, .writeBegin [b], .producer, .producer,
          .consumer, .consumer, .consumer] } = .next t ∧
      t = { s with q := [], inputs := [], results := s.results ++ [.writeOk, .processOk] }) ∧
    (∃ t, Sys2Proof.core.run 10 { s with inputs :=
        [.processBegin ctx, .consumer, .consumer, .consumer, .writeBegin [b], .consumer, .producer,
          .producer, .consumer, .consumer] } = .next t ∧
      t = { s with q := [b], inputs := [], results := s.results ++ [.processOk, .writeOk] })

/-! ### The codes of the outputs and of the registers -/

/-- 60_exceptions.md R201 and R205, the columns "code" and "class"; 10_state.md R21 and R23, the
encodings of the frame states and of the message types. -/
def Obligations.CodesAreAsTabulated : Prop :=
  (∀ st, diagCode (.partialFrame st) = 0x01#8 ∧ diagClass (.partialFrame st) = .partialBuffer) ∧
  (∀ b, diagCode (.unknownType b) = 0x02#8 ∧ diagClass (.unknownType b) = .protocolLocal) ∧
  (diagCode .usUnknownType = 0x03#8 ∧ diagClass .usUnknownType = .protocolLocal) ∧
  (∀ c0 c1, diagCode (.invalidHex c0 c1) = 0x04#8 ∧
    diagClass (.invalidHex c0 c1) = .protocolLocal) ∧
  (∀ st, diagCode (.dupSeparator st) = 0x05#8 ∧ diagClass (.dupSeparator st) = .protocolLocal) ∧
  (∀ e, diagCode (.killReject e) = 0x06#8 ∧ diagClass (.killReject e) = .applicationReject) ∧
  (∀ b e, diagCode (.checksumReject b e) = 0x07#8 ∧
    diagClass (.checksumReject b e) = .applicationReject) ∧
  (∀ b e, diagCode (.ramReject b e) = 0x08#8 ∧ diagClass (.ramReject b e) = .applicationReject) ∧
  (∀ e i, diagCode (.verifyFail e i) = 0x09#8 ∧ diagClass (.verifyFail e i) = .fatalToLoad) ∧
  (∀ e, diagCode (.notifyReject e) = 0x0A#8 ∧ diagClass (.notifyReject e) = .collaboratorLocal) ∧
  (∀ e, diagCode (.syscallParseFail e) = 0x0B#8 ∧
    diagClass (.syscallParseFail e) = .collaboratorLocal) ∧
  (∀ n k, faultCode (.queueOverflow n k) = 0x80#8) ∧
  (∀ b, faultCode (.frameBufferOverflow b) = 0x81#8) ∧
  frameStateCode .wait = 0#3 ∧ frameStateCode .init = 1#3 ∧ frameStateCode .payload = 2#3 ∧
  frameStateCode .applicationChecksum = 3#3 ∧ frameStateCode .applicationStore = 4#3 ∧
  frameStateCode .notificationSource = 5#3 ∧ frameStateCode .notificationTitle = 6#3 ∧
  frameStateCode .notificationBody = 7#3 ∧
  msgTypeCode .unknown = 0 ∧ msgTypeCode .application = 1 ∧ msgTypeCode .notification = 2 ∧
  msgTypeCode .syscall = 3 ∧ (∀ k, msgTypeCode (.ext k) = 4 + k)
end

