-- ==== Sys2Proof/Laws/State.lean ====
section
/-! SUPPORT. One lemma per field per update of Machine/Ops.lean, each true by rfl, so that no proof
unfolds a record update. -/

namespace Sys2Proof.Machine

section
variable (s : State) (v : List Byte)
@[simp] theorem State.setQ_cfg : (s.setQ v).cfg = s.cfg := rfl
@[simp] theorem State.setQ_q : (s.setQ v).q = v := rfl
@[simp] theorem State.setQ_st : (s.setQ v).st = s.st := rfl
@[simp] theorem State.setQ_ty : (s.setQ v).ty = s.ty := rfl
@[simp] theorem State.setQ_wc : (s.setQ v).wc = s.wc := rfl
@[simp] theorem State.setQ_fb : (s.setQ v).fb = s.fb := rfl
@[simp] theorem State.setQ_idx0 : (s.setQ v).idx0 = s.idx0 := rfl
@[simp] theorem State.setQ_idx1 : (s.setQ v).idx1 = s.idx1 := rfl
@[simp] theorem State.setQ_idx2 : (s.setQ v).idx2 = s.idx2 := rfl
@[simp] theorem State.setQ_sc : (s.setQ v).sc = s.sc := rfl
@[simp] theorem State.setQ_hxC0 : (s.setQ v).hxC0 = s.hxC0 := rfl
@[simp] theorem State.setQ_hxC1 : (s.setQ v).hxC1 = s.hxC1 := rfl
@[simp] theorem State.setQ_hxFill : (s.setQ v).hxFill = s.hxFill := rfl
@[simp] theorem State.setQ_fault : (s.setQ v).fault = s.fault := rfl
@[simp] theorem State.setQ_producer : (s.setQ v).producer = s.producer := rfl
@[simp] theorem State.setQ_consumer : (s.setQ v).consumer = s.consumer := rfl
@[simp] theorem State.setQ_inputs : (s.setQ v).inputs = s.inputs := rfl
@[simp] theorem State.setQ_outputs : (s.setQ v).outputs = s.outputs := rfl
@[simp] theorem State.setQ_results : (s.setQ v).results = s.results := rfl
@[simp] theorem State.setQ_drawn : (s.setQ v).drawn = s.drawn := rfl
@[simp] theorem State.setQ_fbBase : (s.setQ v).fbBase = s.fbBase := rfl
end

section
variable (s : State) (v : FrameState)
@[simp] theorem State.setSt_cfg : (s.setSt v).cfg = s.cfg := rfl
@[simp] theorem State.setSt_q : (s.setSt v).q = s.q := rfl
@[simp] theorem State.setSt_st : (s.setSt v).st = v := rfl
@[simp] theorem State.setSt_ty : (s.setSt v).ty = s.ty := rfl
@[simp] theorem State.setSt_wc : (s.setSt v).wc = s.wc := rfl
@[simp] theorem State.setSt_fb : (s.setSt v).fb = s.fb := rfl
@[simp] theorem State.setSt_idx0 : (s.setSt v).idx0 = s.idx0 := rfl
@[simp] theorem State.setSt_idx1 : (s.setSt v).idx1 = s.idx1 := rfl
@[simp] theorem State.setSt_idx2 : (s.setSt v).idx2 = s.idx2 := rfl
@[simp] theorem State.setSt_sc : (s.setSt v).sc = s.sc := rfl
@[simp] theorem State.setSt_hxC0 : (s.setSt v).hxC0 = s.hxC0 := rfl
@[simp] theorem State.setSt_hxC1 : (s.setSt v).hxC1 = s.hxC1 := rfl
@[simp] theorem State.setSt_hxFill : (s.setSt v).hxFill = s.hxFill := rfl
@[simp] theorem State.setSt_fault : (s.setSt v).fault = s.fault := rfl
@[simp] theorem State.setSt_producer : (s.setSt v).producer = s.producer := rfl
@[simp] theorem State.setSt_consumer : (s.setSt v).consumer = s.consumer := rfl
@[simp] theorem State.setSt_inputs : (s.setSt v).inputs = s.inputs := rfl
@[simp] theorem State.setSt_outputs : (s.setSt v).outputs = s.outputs := rfl
@[simp] theorem State.setSt_results : (s.setSt v).results = s.results := rfl
@[simp] theorem State.setSt_drawn : (s.setSt v).drawn = s.drawn := rfl
@[simp] theorem State.setSt_fbBase : (s.setSt v).fbBase = s.fbBase := rfl
end

section
variable (s : State) (v : MsgType)
@[simp] theorem State.setTy_cfg : (s.setTy v).cfg = s.cfg := rfl
@[simp] theorem State.setTy_q : (s.setTy v).q = s.q := rfl
@[simp] theorem State.setTy_st : (s.setTy v).st = s.st := rfl
@[simp] theorem State.setTy_ty : (s.setTy v).ty = v := rfl
@[simp] theorem State.setTy_wc : (s.setTy v).wc = s.wc := rfl
@[simp] theorem State.setTy_fb : (s.setTy v).fb = s.fb := rfl
@[simp] theorem State.setTy_idx0 : (s.setTy v).idx0 = s.idx0 := rfl
@[simp] theorem State.setTy_idx1 : (s.setTy v).idx1 = s.idx1 := rfl
@[simp] theorem State.setTy_idx2 : (s.setTy v).idx2 = s.idx2 := rfl
@[simp] theorem State.setTy_sc : (s.setTy v).sc = s.sc := rfl
@[simp] theorem State.setTy_hxC0 : (s.setTy v).hxC0 = s.hxC0 := rfl
@[simp] theorem State.setTy_hxC1 : (s.setTy v).hxC1 = s.hxC1 := rfl
@[simp] theorem State.setTy_hxFill : (s.setTy v).hxFill = s.hxFill := rfl
@[simp] theorem State.setTy_fault : (s.setTy v).fault = s.fault := rfl
@[simp] theorem State.setTy_producer : (s.setTy v).producer = s.producer := rfl
@[simp] theorem State.setTy_consumer : (s.setTy v).consumer = s.consumer := rfl
@[simp] theorem State.setTy_inputs : (s.setTy v).inputs = s.inputs := rfl
@[simp] theorem State.setTy_outputs : (s.setTy v).outputs = s.outputs := rfl
@[simp] theorem State.setTy_results : (s.setTy v).results = s.results := rfl
@[simp] theorem State.setTy_drawn : (s.setTy v).drawn = s.drawn := rfl
@[simp] theorem State.setTy_fbBase : (s.setTy v).fbBase = s.fbBase := rfl
end

section
variable (s : State) (v : Nat)
@[simp] theorem State.setWc_cfg : (s.setWc v).cfg = s.cfg := rfl
@[simp] theorem State.setWc_q : (s.setWc v).q = s.q := rfl
@[simp] theorem State.setWc_st : (s.setWc v).st = s.st := rfl
@[simp] theorem State.setWc_ty : (s.setWc v).ty = s.ty := rfl
@[simp] theorem State.setWc_wc : (s.setWc v).wc = v := rfl
@[simp] theorem State.setWc_fb : (s.setWc v).fb = s.fb := rfl
@[simp] theorem State.setWc_idx0 : (s.setWc v).idx0 = s.idx0 := rfl
@[simp] theorem State.setWc_idx1 : (s.setWc v).idx1 = s.idx1 := rfl
@[simp] theorem State.setWc_idx2 : (s.setWc v).idx2 = s.idx2 := rfl
@[simp] theorem State.setWc_sc : (s.setWc v).sc = s.sc := rfl
@[simp] theorem State.setWc_hxC0 : (s.setWc v).hxC0 = s.hxC0 := rfl
@[simp] theorem State.setWc_hxC1 : (s.setWc v).hxC1 = s.hxC1 := rfl
@[simp] theorem State.setWc_hxFill : (s.setWc v).hxFill = s.hxFill := rfl
@[simp] theorem State.setWc_fault : (s.setWc v).fault = s.fault := rfl
@[simp] theorem State.setWc_producer : (s.setWc v).producer = s.producer := rfl
@[simp] theorem State.setWc_consumer : (s.setWc v).consumer = s.consumer := rfl
@[simp] theorem State.setWc_inputs : (s.setWc v).inputs = s.inputs := rfl
@[simp] theorem State.setWc_outputs : (s.setWc v).outputs = s.outputs := rfl
@[simp] theorem State.setWc_results : (s.setWc v).results = s.results := rfl
@[simp] theorem State.setWc_drawn : (s.setWc v).drawn = s.drawn := rfl
@[simp] theorem State.setWc_fbBase : (s.setWc v).fbBase = s.fbBase := rfl
end

section
variable (s : State) (v : List Host.Cell)
@[simp] theorem State.setFb_cfg : (s.setFb v).cfg = s.cfg := rfl
@[simp] theorem State.setFb_q : (s.setFb v).q = s.q := rfl
@[simp] theorem State.setFb_st : (s.setFb v).st = s.st := rfl
@[simp] theorem State.setFb_ty : (s.setFb v).ty = s.ty := rfl
@[simp] theorem State.setFb_wc : (s.setFb v).wc = s.wc := rfl
@[simp] theorem State.setFb_fb : (s.setFb v).fb = v := rfl
@[simp] theorem State.setFb_idx0 : (s.setFb v).idx0 = s.idx0 := rfl
@[simp] theorem State.setFb_idx1 : (s.setFb v).idx1 = s.idx1 := rfl
@[simp] theorem State.setFb_idx2 : (s.setFb v).idx2 = s.idx2 := rfl
@[simp] theorem State.setFb_sc : (s.setFb v).sc = s.sc := rfl
@[simp] theorem State.setFb_hxC0 : (s.setFb v).hxC0 = s.hxC0 := rfl
@[simp] theorem State.setFb_hxC1 : (s.setFb v).hxC1 = s.hxC1 := rfl
@[simp] theorem State.setFb_hxFill : (s.setFb v).hxFill = s.hxFill := rfl
@[simp] theorem State.setFb_fault : (s.setFb v).fault = s.fault := rfl
@[simp] theorem State.setFb_producer : (s.setFb v).producer = s.producer := rfl
@[simp] theorem State.setFb_consumer : (s.setFb v).consumer = s.consumer := rfl
@[simp] theorem State.setFb_inputs : (s.setFb v).inputs = s.inputs := rfl
@[simp] theorem State.setFb_outputs : (s.setFb v).outputs = s.outputs := rfl
@[simp] theorem State.setFb_results : (s.setFb v).results = s.results := rfl
@[simp] theorem State.setFb_drawn : (s.setFb v).drawn = s.drawn := rfl
@[simp] theorem State.setFb_fbBase : (s.setFb v).fbBase = s.fbBase := rfl
end

section
variable (s : State) (v : Nat)
@[simp] theorem State.setIdx0_cfg : (s.setIdx0 v).cfg = s.cfg := rfl
@[simp] theorem State.setIdx0_q : (s.setIdx0 v).q = s.q := rfl
@[simp] theorem State.setIdx0_st : (s.setIdx0 v).st = s.st := rfl
@[simp] theorem State.setIdx0_ty : (s.setIdx0 v).ty = s.ty := rfl
@[simp] theorem State.setIdx0_wc : (s.setIdx0 v).wc = s.wc := rfl
@[simp] theorem State.setIdx0_fb : (s.setIdx0 v).fb = s.fb := rfl
@[simp] theorem State.setIdx0_idx0 : (s.setIdx0 v).idx0 = v := rfl
@[simp] theorem State.setIdx0_idx1 : (s.setIdx0 v).idx1 = s.idx1 := rfl
@[simp] theorem State.setIdx0_idx2 : (s.setIdx0 v).idx2 = s.idx2 := rfl
@[simp] theorem State.setIdx0_sc : (s.setIdx0 v).sc = s.sc := rfl
@[simp] theorem State.setIdx0_hxC0 : (s.setIdx0 v).hxC0 = s.hxC0 := rfl
@[simp] theorem State.setIdx0_hxC1 : (s.setIdx0 v).hxC1 = s.hxC1 := rfl
@[simp] theorem State.setIdx0_hxFill : (s.setIdx0 v).hxFill = s.hxFill := rfl
@[simp] theorem State.setIdx0_fault : (s.setIdx0 v).fault = s.fault := rfl
@[simp] theorem State.setIdx0_producer : (s.setIdx0 v).producer = s.producer := rfl
@[simp] theorem State.setIdx0_consumer : (s.setIdx0 v).consumer = s.consumer := rfl
@[simp] theorem State.setIdx0_inputs : (s.setIdx0 v).inputs = s.inputs := rfl
@[simp] theorem State.setIdx0_outputs : (s.setIdx0 v).outputs = s.outputs := rfl
@[simp] theorem State.setIdx0_results : (s.setIdx0 v).results = s.results := rfl
@[simp] theorem State.setIdx0_drawn : (s.setIdx0 v).drawn = s.drawn := rfl
@[simp] theorem State.setIdx0_fbBase : (s.setIdx0 v).fbBase = s.fbBase := rfl
end

section
variable (s : State) (v : Nat)
@[simp] theorem State.setIdx1_cfg : (s.setIdx1 v).cfg = s.cfg := rfl
@[simp] theorem State.setIdx1_q : (s.setIdx1 v).q = s.q := rfl
@[simp] theorem State.setIdx1_st : (s.setIdx1 v).st = s.st := rfl
@[simp] theorem State.setIdx1_ty : (s.setIdx1 v).ty = s.ty := rfl
@[simp] theorem State.setIdx1_wc : (s.setIdx1 v).wc = s.wc := rfl
@[simp] theorem State.setIdx1_fb : (s.setIdx1 v).fb = s.fb := rfl
@[simp] theorem State.setIdx1_idx0 : (s.setIdx1 v).idx0 = s.idx0 := rfl
@[simp] theorem State.setIdx1_idx1 : (s.setIdx1 v).idx1 = v := rfl
@[simp] theorem State.setIdx1_idx2 : (s.setIdx1 v).idx2 = s.idx2 := rfl
@[simp] theorem State.setIdx1_sc : (s.setIdx1 v).sc = s.sc := rfl
@[simp] theorem State.setIdx1_hxC0 : (s.setIdx1 v).hxC0 = s.hxC0 := rfl
@[simp] theorem State.setIdx1_hxC1 : (s.setIdx1 v).hxC1 = s.hxC1 := rfl
@[simp] theorem State.setIdx1_hxFill : (s.setIdx1 v).hxFill = s.hxFill := rfl
@[simp] theorem State.setIdx1_fault : (s.setIdx1 v).fault = s.fault := rfl
@[simp] theorem State.setIdx1_producer : (s.setIdx1 v).producer = s.producer := rfl
@[simp] theorem State.setIdx1_consumer : (s.setIdx1 v).consumer = s.consumer := rfl
@[simp] theorem State.setIdx1_inputs : (s.setIdx1 v).inputs = s.inputs := rfl
@[simp] theorem State.setIdx1_outputs : (s.setIdx1 v).outputs = s.outputs := rfl
@[simp] theorem State.setIdx1_results : (s.setIdx1 v).results = s.results := rfl
@[simp] theorem State.setIdx1_drawn : (s.setIdx1 v).drawn = s.drawn := rfl
@[simp] theorem State.setIdx1_fbBase : (s.setIdx1 v).fbBase = s.fbBase := rfl
end

section
variable (s : State) (v : Nat)
@[simp] theorem State.setIdx2_cfg : (s.setIdx2 v).cfg = s.cfg := rfl
@[simp] theorem State.setIdx2_q : (s.setIdx2 v).q = s.q := rfl
@[simp] theorem State.setIdx2_st : (s.setIdx2 v).st = s.st := rfl
@[simp] theorem State.setIdx2_ty : (s.setIdx2 v).ty = s.ty := rfl
@[simp] theorem State.setIdx2_wc : (s.setIdx2 v).wc = s.wc := rfl
@[simp] theorem State.setIdx2_fb : (s.setIdx2 v).fb = s.fb := rfl
@[simp] theorem State.setIdx2_idx0 : (s.setIdx2 v).idx0 = s.idx0 := rfl
@[simp] theorem State.setIdx2_idx1 : (s.setIdx2 v).idx1 = s.idx1 := rfl
@[simp] theorem State.setIdx2_idx2 : (s.setIdx2 v).idx2 = v := rfl
@[simp] theorem State.setIdx2_sc : (s.setIdx2 v).sc = s.sc := rfl
@[simp] theorem State.setIdx2_hxC0 : (s.setIdx2 v).hxC0 = s.hxC0 := rfl
@[simp] theorem State.setIdx2_hxC1 : (s.setIdx2 v).hxC1 = s.hxC1 := rfl
@[simp] theorem State.setIdx2_hxFill : (s.setIdx2 v).hxFill = s.hxFill := rfl
@[simp] theorem State.setIdx2_fault : (s.setIdx2 v).fault = s.fault := rfl
@[simp] theorem State.setIdx2_producer : (s.setIdx2 v).producer = s.producer := rfl
@[simp] theorem State.setIdx2_consumer : (s.setIdx2 v).consumer = s.consumer := rfl
@[simp] theorem State.setIdx2_inputs : (s.setIdx2 v).inputs = s.inputs := rfl
@[simp] theorem State.setIdx2_outputs : (s.setIdx2 v).outputs = s.outputs := rfl
@[simp] theorem State.setIdx2_results : (s.setIdx2 v).results = s.results := rfl
@[simp] theorem State.setIdx2_drawn : (s.setIdx2 v).drawn = s.drawn := rfl
@[simp] theorem State.setIdx2_fbBase : (s.setIdx2 v).fbBase = s.fbBase := rfl
end

section
variable (s : State) (v : Nat)
@[simp] theorem State.setSc_cfg : (s.setSc v).cfg = s.cfg := rfl
@[simp] theorem State.setSc_q : (s.setSc v).q = s.q := rfl
@[simp] theorem State.setSc_st : (s.setSc v).st = s.st := rfl
@[simp] theorem State.setSc_ty : (s.setSc v).ty = s.ty := rfl
@[simp] theorem State.setSc_wc : (s.setSc v).wc = s.wc := rfl
@[simp] theorem State.setSc_fb : (s.setSc v).fb = s.fb := rfl
@[simp] theorem State.setSc_idx0 : (s.setSc v).idx0 = s.idx0 := rfl
@[simp] theorem State.setSc_idx1 : (s.setSc v).idx1 = s.idx1 := rfl
@[simp] theorem State.setSc_idx2 : (s.setSc v).idx2 = s.idx2 := rfl
@[simp] theorem State.setSc_sc : (s.setSc v).sc = v := rfl
@[simp] theorem State.setSc_hxC0 : (s.setSc v).hxC0 = s.hxC0 := rfl
@[simp] theorem State.setSc_hxC1 : (s.setSc v).hxC1 = s.hxC1 := rfl
@[simp] theorem State.setSc_hxFill : (s.setSc v).hxFill = s.hxFill := rfl
@[simp] theorem State.setSc_fault : (s.setSc v).fault = s.fault := rfl
@[simp] theorem State.setSc_producer : (s.setSc v).producer = s.producer := rfl
@[simp] theorem State.setSc_consumer : (s.setSc v).consumer = s.consumer := rfl
@[simp] theorem State.setSc_inputs : (s.setSc v).inputs = s.inputs := rfl
@[simp] theorem State.setSc_outputs : (s.setSc v).outputs = s.outputs := rfl
@[simp] theorem State.setSc_results : (s.setSc v).results = s.results := rfl
@[simp] theorem State.setSc_drawn : (s.setSc v).drawn = s.drawn := rfl
@[simp] theorem State.setSc_fbBase : (s.setSc v).fbBase = s.fbBase := rfl
end

section
variable (s : State) (v : Byte)
@[simp] theorem State.setHxC0_cfg : (s.setHxC0 v).cfg = s.cfg := rfl
@[simp] theorem State.setHxC0_q : (s.setHxC0 v).q = s.q := rfl
@[simp] theorem State.setHxC0_st : (s.setHxC0 v).st = s.st := rfl
@[simp] theorem State.setHxC0_ty : (s.setHxC0 v).ty = s.ty := rfl
@[simp] theorem State.setHxC0_wc : (s.setHxC0 v).wc = s.wc := rfl
@[simp] theorem State.setHxC0_fb : (s.setHxC0 v).fb = s.fb := rfl
@[simp] theorem State.setHxC0_idx0 : (s.setHxC0 v).idx0 = s.idx0 := rfl
@[simp] theorem State.setHxC0_idx1 : (s.setHxC0 v).idx1 = s.idx1 := rfl
@[simp] theorem State.setHxC0_idx2 : (s.setHxC0 v).idx2 = s.idx2 := rfl
@[simp] theorem State.setHxC0_sc : (s.setHxC0 v).sc = s.sc := rfl
@[simp] theorem State.setHxC0_hxC0 : (s.setHxC0 v).hxC0 = v := rfl
@[simp] theorem State.setHxC0_hxC1 : (s.setHxC0 v).hxC1 = s.hxC1 := rfl
@[simp] theorem State.setHxC0_hxFill : (s.setHxC0 v).hxFill = s.hxFill := rfl
@[simp] theorem State.setHxC0_fault : (s.setHxC0 v).fault = s.fault := rfl
@[simp] theorem State.setHxC0_producer : (s.setHxC0 v).producer = s.producer := rfl
@[simp] theorem State.setHxC0_consumer : (s.setHxC0 v).consumer = s.consumer := rfl
@[simp] theorem State.setHxC0_inputs : (s.setHxC0 v).inputs = s.inputs := rfl
@[simp] theorem State.setHxC0_outputs : (s.setHxC0 v).outputs = s.outputs := rfl
@[simp] theorem State.setHxC0_results : (s.setHxC0 v).results = s.results := rfl
@[simp] theorem State.setHxC0_drawn : (s.setHxC0 v).drawn = s.drawn := rfl
@[simp] theorem State.setHxC0_fbBase : (s.setHxC0 v).fbBase = s.fbBase := rfl
end

section
variable (s : State) (v : Byte)
@[simp] theorem State.setHxC1_cfg : (s.setHxC1 v).cfg = s.cfg := rfl
@[simp] theorem State.setHxC1_q : (s.setHxC1 v).q = s.q := rfl
@[simp] theorem State.setHxC1_st : (s.setHxC1 v).st = s.st := rfl
@[simp] theorem State.setHxC1_ty : (s.setHxC1 v).ty = s.ty := rfl
@[simp] theorem State.setHxC1_wc : (s.setHxC1 v).wc = s.wc := rfl
@[simp] theorem State.setHxC1_fb : (s.setHxC1 v).fb = s.fb := rfl
@[simp] theorem State.setHxC1_idx0 : (s.setHxC1 v).idx0 = s.idx0 := rfl
@[simp] theorem State.setHxC1_idx1 : (s.setHxC1 v).idx1 = s.idx1 := rfl
@[simp] theorem State.setHxC1_idx2 : (s.setHxC1 v).idx2 = s.idx2 := rfl
@[simp] theorem State.setHxC1_sc : (s.setHxC1 v).sc = s.sc := rfl
@[simp] theorem State.setHxC1_hxC0 : (s.setHxC1 v).hxC0 = s.hxC0 := rfl
@[simp] theorem State.setHxC1_hxC1 : (s.setHxC1 v).hxC1 = v := rfl
@[simp] theorem State.setHxC1_hxFill : (s.setHxC1 v).hxFill = s.hxFill := rfl
@[simp] theorem State.setHxC1_fault : (s.setHxC1 v).fault = s.fault := rfl
@[simp] theorem State.setHxC1_producer : (s.setHxC1 v).producer = s.producer := rfl
@[simp] theorem State.setHxC1_consumer : (s.setHxC1 v).consumer = s.consumer := rfl
@[simp] theorem State.setHxC1_inputs : (s.setHxC1 v).inputs = s.inputs := rfl
@[simp] theorem State.setHxC1_outputs : (s.setHxC1 v).outputs = s.outputs := rfl
@[simp] theorem State.setHxC1_results : (s.setHxC1 v).results = s.results := rfl
@[simp] theorem State.setHxC1_drawn : (s.setHxC1 v).drawn = s.drawn := rfl
@[simp] theorem State.setHxC1_fbBase : (s.setHxC1 v).fbBase = s.fbBase := rfl
end

section
variable (s : State) (v : Bool)
@[simp] theorem State.setHxFill_cfg : (s.setHxFill v).cfg = s.cfg := rfl
@[simp] theorem State.setHxFill_q : (s.setHxFill v).q = s.q := rfl
@[simp] theorem State.setHxFill_st : (s.setHxFill v).st = s.st := rfl
@[simp] theorem State.setHxFill_ty : (s.setHxFill v).ty = s.ty := rfl
@[simp] theorem State.setHxFill_wc : (s.setHxFill v).wc = s.wc := rfl
@[simp] theorem State.setHxFill_fb : (s.setHxFill v).fb = s.fb := rfl
@[simp] theorem State.setHxFill_idx0 : (s.setHxFill v).idx0 = s.idx0 := rfl
@[simp] theorem State.setHxFill_idx1 : (s.setHxFill v).idx1 = s.idx1 := rfl
@[simp] theorem State.setHxFill_idx2 : (s.setHxFill v).idx2 = s.idx2 := rfl
@[simp] theorem State.setHxFill_sc : (s.setHxFill v).sc = s.sc := rfl
@[simp] theorem State.setHxFill_hxC0 : (s.setHxFill v).hxC0 = s.hxC0 := rfl
@[simp] theorem State.setHxFill_hxC1 : (s.setHxFill v).hxC1 = s.hxC1 := rfl
@[simp] theorem State.setHxFill_hxFill : (s.setHxFill v).hxFill = v := rfl
@[simp] theorem State.setHxFill_fault : (s.setHxFill v).fault = s.fault := rfl
@[simp] theorem State.setHxFill_producer : (s.setHxFill v).producer = s.producer := rfl
@[simp] theorem State.setHxFill_consumer : (s.setHxFill v).consumer = s.consumer := rfl
@[simp] theorem State.setHxFill_inputs : (s.setHxFill v).inputs = s.inputs := rfl
@[simp] theorem State.setHxFill_outputs : (s.setHxFill v).outputs = s.outputs := rfl
@[simp] theorem State.setHxFill_results : (s.setHxFill v).results = s.results := rfl
@[simp] theorem State.setHxFill_drawn : (s.setHxFill v).drawn = s.drawn := rfl
@[simp] theorem State.setHxFill_fbBase : (s.setHxFill v).fbBase = s.fbBase := rfl
end

section
variable (s : State) (v : Option FatalFault)
@[simp] theorem State.setFault_cfg : (s.setFault v).cfg = s.cfg := rfl
@[simp] theorem State.setFault_q : (s.setFault v).q = s.q := rfl
@[simp] theorem State.setFault_st : (s.setFault v).st = s.st := rfl
@[simp] theorem State.setFault_ty : (s.setFault v).ty = s.ty := rfl
@[simp] theorem State.setFault_wc : (s.setFault v).wc = s.wc := rfl
@[simp] theorem State.setFault_fb : (s.setFault v).fb = s.fb := rfl
@[simp] theorem State.setFault_idx0 : (s.setFault v).idx0 = s.idx0 := rfl
@[simp] theorem State.setFault_idx1 : (s.setFault v).idx1 = s.idx1 := rfl
@[simp] theorem State.setFault_idx2 : (s.setFault v).idx2 = s.idx2 := rfl
@[simp] theorem State.setFault_sc : (s.setFault v).sc = s.sc := rfl
@[simp] theorem State.setFault_hxC0 : (s.setFault v).hxC0 = s.hxC0 := rfl
@[simp] theorem State.setFault_hxC1 : (s.setFault v).hxC1 = s.hxC1 := rfl
@[simp] theorem State.setFault_hxFill : (s.setFault v).hxFill = s.hxFill := rfl
@[simp] theorem State.setFault_fault : (s.setFault v).fault = v := rfl
@[simp] theorem State.setFault_producer : (s.setFault v).producer = s.producer := rfl
@[simp] theorem State.setFault_consumer : (s.setFault v).consumer = s.consumer := rfl
@[simp] theorem State.setFault_inputs : (s.setFault v).inputs = s.inputs := rfl
@[simp] theorem State.setFault_outputs : (s.setFault v).outputs = s.outputs := rfl
@[simp] theorem State.setFault_results : (s.setFault v).results = s.results := rfl
@[simp] theorem State.setFault_drawn : (s.setFault v).drawn = s.drawn := rfl
@[simp] theorem State.setFault_fbBase : (s.setFault v).fbBase = s.fbBase := rfl
end

section
variable (s : State) (v : Producer)
@[simp] theorem State.setProducer_cfg : (s.setProducer v).cfg = s.cfg := rfl
@[simp] theorem State.setProducer_q : (s.setProducer v).q = s.q := rfl
@[simp] theorem State.setProducer_st : (s.setProducer v).st = s.st := rfl
@[simp] theorem State.setProducer_ty : (s.setProducer v).ty = s.ty := rfl
@[simp] theorem State.setProducer_wc : (s.setProducer v).wc = s.wc := rfl
@[simp] theorem State.setProducer_fb : (s.setProducer v).fb = s.fb := rfl
@[simp] theorem State.setProducer_idx0 : (s.setProducer v).idx0 = s.idx0 := rfl
@[simp] theorem State.setProducer_idx1 : (s.setProducer v).idx1 = s.idx1 := rfl
@[simp] theorem State.setProducer_idx2 : (s.setProducer v).idx2 = s.idx2 := rfl
@[simp] theorem State.setProducer_sc : (s.setProducer v).sc = s.sc := rfl
@[simp] theorem State.setProducer_hxC0 : (s.setProducer v).hxC0 = s.hxC0 := rfl
@[simp] theorem State.setProducer_hxC1 : (s.setProducer v).hxC1 = s.hxC1 := rfl
@[simp] theorem State.setProducer_hxFill : (s.setProducer v).hxFill = s.hxFill := rfl
@[simp] theorem State.setProducer_fault : (s.setProducer v).fault = s.fault := rfl
@[simp] theorem State.setProducer_producer : (s.setProducer v).producer = v := rfl
@[simp] theorem State.setProducer_consumer : (s.setProducer v).consumer = s.consumer := rfl
@[simp] theorem State.setProducer_inputs : (s.setProducer v).inputs = s.inputs := rfl
@[simp] theorem State.setProducer_outputs : (s.setProducer v).outputs = s.outputs := rfl
@[simp] theorem State.setProducer_results : (s.setProducer v).results = s.results := rfl
@[simp] theorem State.setProducer_drawn : (s.setProducer v).drawn = s.drawn := rfl
@[simp] theorem State.setProducer_fbBase : (s.setProducer v).fbBase = s.fbBase := rfl
end

section
variable (s : State) (v : Consumer)
@[simp] theorem State.setConsumer_cfg : (s.setConsumer v).cfg = s.cfg := rfl
@[simp] theorem State.setConsumer_q : (s.setConsumer v).q = s.q := rfl
@[simp] theorem State.setConsumer_st : (s.setConsumer v).st = s.st := rfl
@[simp] theorem State.setConsumer_ty : (s.setConsumer v).ty = s.ty := rfl
@[simp] theorem State.setConsumer_wc : (s.setConsumer v).wc = s.wc := rfl
@[simp] theorem State.setConsumer_fb : (s.setConsumer v).fb = s.fb := rfl
@[simp] theorem State.setConsumer_idx0 : (s.setConsumer v).idx0 = s.idx0 := rfl
@[simp] theorem State.setConsumer_idx1 : (s.setConsumer v).idx1 = s.idx1 := rfl
@[simp] theorem State.setConsumer_idx2 : (s.setConsumer v).idx2 = s.idx2 := rfl
@[simp] theorem State.setConsumer_sc : (s.setConsumer v).sc = s.sc := rfl
@[simp] theorem State.setConsumer_hxC0 : (s.setConsumer v).hxC0 = s.hxC0 := rfl
@[simp] theorem State.setConsumer_hxC1 : (s.setConsumer v).hxC1 = s.hxC1 := rfl
@[simp] theorem State.setConsumer_hxFill : (s.setConsumer v).hxFill = s.hxFill := rfl
@[simp] theorem State.setConsumer_fault : (s.setConsumer v).fault = s.fault := rfl
@[simp] theorem State.setConsumer_producer : (s.setConsumer v).producer = s.producer := rfl
@[simp] theorem State.setConsumer_consumer : (s.setConsumer v).consumer = v := rfl
@[simp] theorem State.setConsumer_inputs : (s.setConsumer v).inputs = s.inputs := rfl
@[simp] theorem State.setConsumer_outputs : (s.setConsumer v).outputs = s.outputs := rfl
@[simp] theorem State.setConsumer_results : (s.setConsumer v).results = s.results := rfl
@[simp] theorem State.setConsumer_drawn : (s.setConsumer v).drawn = s.drawn := rfl
@[simp] theorem State.setConsumer_fbBase : (s.setConsumer v).fbBase = s.fbBase := rfl
end

section
variable (s : State) (v : List Input)
@[simp] theorem State.setInputs_cfg : (s.setInputs v).cfg = s.cfg := rfl
@[simp] theorem State.setInputs_q : (s.setInputs v).q = s.q := rfl
@[simp] theorem State.setInputs_st : (s.setInputs v).st = s.st := rfl
@[simp] theorem State.setInputs_ty : (s.setInputs v).ty = s.ty := rfl
@[simp] theorem State.setInputs_wc : (s.setInputs v).wc = s.wc := rfl
@[simp] theorem State.setInputs_fb : (s.setInputs v).fb = s.fb := rfl
@[simp] theorem State.setInputs_idx0 : (s.setInputs v).idx0 = s.idx0 := rfl
@[simp] theorem State.setInputs_idx1 : (s.setInputs v).idx1 = s.idx1 := rfl
@[simp] theorem State.setInputs_idx2 : (s.setInputs v).idx2 = s.idx2 := rfl
@[simp] theorem State.setInputs_sc : (s.setInputs v).sc = s.sc := rfl
@[simp] theorem State.setInputs_hxC0 : (s.setInputs v).hxC0 = s.hxC0 := rfl
@[simp] theorem State.setInputs_hxC1 : (s.setInputs v).hxC1 = s.hxC1 := rfl
@[simp] theorem State.setInputs_hxFill : (s.setInputs v).hxFill = s.hxFill := rfl
@[simp] theorem State.setInputs_fault : (s.setInputs v).fault = s.fault := rfl
@[simp] theorem State.setInputs_producer : (s.setInputs v).producer = s.producer := rfl
@[simp] theorem State.setInputs_consumer : (s.setInputs v).consumer = s.consumer := rfl
@[simp] theorem State.setInputs_inputs : (s.setInputs v).inputs = v := rfl
@[simp] theorem State.setInputs_outputs : (s.setInputs v).outputs = s.outputs := rfl
@[simp] theorem State.setInputs_results : (s.setInputs v).results = s.results := rfl
@[simp] theorem State.setInputs_drawn : (s.setInputs v).drawn = s.drawn := rfl
@[simp] theorem State.setInputs_fbBase : (s.setInputs v).fbBase = s.fbBase := rfl
end

section
variable (s : State) (v : Nat)
@[simp] theorem State.setDrawn_cfg : (s.setDrawn v).cfg = s.cfg := rfl
@[simp] theorem State.setDrawn_q : (s.setDrawn v).q = s.q := rfl
@[simp] theorem State.setDrawn_st : (s.setDrawn v).st = s.st := rfl
@[simp] theorem State.setDrawn_ty : (s.setDrawn v).ty = s.ty := rfl
@[simp] theorem State.setDrawn_wc : (s.setDrawn v).wc = s.wc := rfl
@[simp] theorem State.setDrawn_fb : (s.setDrawn v).fb = s.fb := rfl
@[simp] theorem State.setDrawn_idx0 : (s.setDrawn v).idx0 = s.idx0 := rfl
@[simp] theorem State.setDrawn_idx1 : (s.setDrawn v).idx1 = s.idx1 := rfl
@[simp] theorem State.setDrawn_idx2 : (s.setDrawn v).idx2 = s.idx2 := rfl
@[simp] theorem State.setDrawn_sc : (s.setDrawn v).sc = s.sc := rfl
@[simp] theorem State.setDrawn_hxC0 : (s.setDrawn v).hxC0 = s.hxC0 := rfl
@[simp] theorem State.setDrawn_hxC1 : (s.setDrawn v).hxC1 = s.hxC1 := rfl
@[simp] theorem State.setDrawn_hxFill : (s.setDrawn v).hxFill = s.hxFill := rfl
@[simp] theorem State.setDrawn_fault : (s.setDrawn v).fault = s.fault := rfl
@[simp] theorem State.setDrawn_producer : (s.setDrawn v).producer = s.producer := rfl
@[simp] theorem State.setDrawn_consumer : (s.setDrawn v).consumer = s.consumer := rfl
@[simp] theorem State.setDrawn_inputs : (s.setDrawn v).inputs = s.inputs := rfl
@[simp] theorem State.setDrawn_outputs : (s.setDrawn v).outputs = s.outputs := rfl
@[simp] theorem State.setDrawn_results : (s.setDrawn v).results = s.results := rfl
@[simp] theorem State.setDrawn_drawn : (s.setDrawn v).drawn = v := rfl
@[simp] theorem State.setDrawn_fbBase : (s.setDrawn v).fbBase = s.fbBase := rfl
end

section
variable (s : State) (v : Nat)
@[simp] theorem State.setFbBase_cfg : (s.setFbBase v).cfg = s.cfg := rfl
@[simp] theorem State.setFbBase_q : (s.setFbBase v).q = s.q := rfl
@[simp] theorem State.setFbBase_st : (s.setFbBase v).st = s.st := rfl
@[simp] theorem State.setFbBase_ty : (s.setFbBase v).ty = s.ty := rfl
@[simp] theorem State.setFbBase_wc : (s.setFbBase v).wc = s.wc := rfl
@[simp] theorem State.setFbBase_fb : (s.setFbBase v).fb = s.fb := rfl
@[simp] theorem State.setFbBase_idx0 : (s.setFbBase v).idx0 = s.idx0 := rfl
@[simp] theorem State.setFbBase_idx1 : (s.setFbBase v).idx1 = s.idx1 := rfl
@[simp] theorem State.setFbBase_idx2 : (s.setFbBase v).idx2 = s.idx2 := rfl
@[simp] theorem State.setFbBase_sc : (s.setFbBase v).sc = s.sc := rfl
@[simp] theorem State.setFbBase_hxC0 : (s.setFbBase v).hxC0 = s.hxC0 := rfl
@[simp] theorem State.setFbBase_hxC1 : (s.setFbBase v).hxC1 = s.hxC1 := rfl
@[simp] theorem State.setFbBase_hxFill : (s.setFbBase v).hxFill = s.hxFill := rfl
@[simp] theorem State.setFbBase_fault : (s.setFbBase v).fault = s.fault := rfl
@[simp] theorem State.setFbBase_producer : (s.setFbBase v).producer = s.producer := rfl
@[simp] theorem State.setFbBase_consumer : (s.setFbBase v).consumer = s.consumer := rfl
@[simp] theorem State.setFbBase_inputs : (s.setFbBase v).inputs = s.inputs := rfl
@[simp] theorem State.setFbBase_outputs : (s.setFbBase v).outputs = s.outputs := rfl
@[simp] theorem State.setFbBase_results : (s.setFbBase v).results = s.results := rfl
@[simp] theorem State.setFbBase_drawn : (s.setFbBase v).drawn = s.drawn := rfl
@[simp] theorem State.setFbBase_fbBase : (s.setFbBase v).fbBase = v := rfl
end

section
variable (s : State) (v : Call)
@[simp] theorem State.addCall_cfg : (s.addCall v).cfg = s.cfg := rfl
@[simp] theorem State.addCall_q : (s.addCall v).q = s.q := rfl
@[simp] theorem State.addCall_st : (s.addCall v).st = s.st := rfl
@[simp] theorem State.addCall_ty : (s.addCall v).ty = s.ty := rfl
@[simp] theorem State.addCall_wc : (s.addCall v).wc = s.wc := rfl
@[simp] theorem State.addCall_fb : (s.addCall v).fb = s.fb := rfl
@[simp] theorem State.addCall_idx0 : (s.addCall v).idx0 = s.idx0 := rfl
@[simp] theorem State.addCall_idx1 : (s.addCall v).idx1 = s.idx1 := rfl
@[simp] theorem State.addCall_idx2 : (s.addCall v).idx2 = s.idx2 := rfl
@[simp] theorem State.addCall_sc : (s.addCall v).sc = s.sc := rfl
@[simp] theorem State.addCall_hxC0 : (s.addCall v).hxC0 = s.hxC0 := rfl
@[simp] theorem State.addCall_hxC1 : (s.addCall v).hxC1 = s.hxC1 := rfl
@[simp] theorem State.addCall_hxFill : (s.addCall v).hxFill = s.hxFill := rfl
@[simp] theorem State.addCall_fault : (s.addCall v).fault = s.fault := rfl
@[simp] theorem State.addCall_producer : (s.addCall v).producer = s.producer := rfl
@[simp] theorem State.addCall_consumer : (s.addCall v).consumer = s.consumer := rfl
@[simp] theorem State.addCall_inputs : (s.addCall v).inputs = s.inputs := rfl
@[simp] theorem State.addCall_outputs : (s.addCall v).outputs = s.outputs ++ [.call v] := rfl
@[simp] theorem State.addCall_results : (s.addCall v).results = s.results := rfl
@[simp] theorem State.addCall_drawn : (s.addCall v).drawn = s.drawn := rfl
@[simp] theorem State.addCall_fbBase : (s.addCall v).fbBase = s.fbBase := rfl
end

section
variable (s : State) (v : Diag)
@[simp] theorem State.emit_cfg : (s.emit v).cfg = s.cfg := rfl
@[simp] theorem State.emit_q : (s.emit v).q = s.q := rfl
@[simp] theorem State.emit_st : (s.emit v).st = s.st := rfl
@[simp] theorem State.emit_ty : (s.emit v).ty = s.ty := rfl
@[simp] theorem State.emit_wc : (s.emit v).wc = s.wc := rfl
@[simp] theorem State.emit_fb : (s.emit v).fb = s.fb := rfl
@[simp] theorem State.emit_idx0 : (s.emit v).idx0 = s.idx0 := rfl
@[simp] theorem State.emit_idx1 : (s.emit v).idx1 = s.idx1 := rfl
@[simp] theorem State.emit_idx2 : (s.emit v).idx2 = s.idx2 := rfl
@[simp] theorem State.emit_sc : (s.emit v).sc = s.sc := rfl
@[simp] theorem State.emit_hxC0 : (s.emit v).hxC0 = s.hxC0 := rfl
@[simp] theorem State.emit_hxC1 : (s.emit v).hxC1 = s.hxC1 := rfl
@[simp] theorem State.emit_hxFill : (s.emit v).hxFill = s.hxFill := rfl
@[simp] theorem State.emit_fault : (s.emit v).fault = s.fault := rfl
@[simp] theorem State.emit_producer : (s.emit v).producer = s.producer := rfl
@[simp] theorem State.emit_consumer : (s.emit v).consumer = s.consumer := rfl
@[simp] theorem State.emit_inputs : (s.emit v).inputs = s.inputs := rfl
@[simp] theorem State.emit_outputs : (s.emit v).outputs = s.outputs ++ [.diag v] := rfl
@[simp] theorem State.emit_results : (s.emit v).results = s.results := rfl
@[simp] theorem State.emit_drawn : (s.emit v).drawn = s.drawn := rfl
@[simp] theorem State.emit_fbBase : (s.emit v).fbBase = s.fbBase := rfl
end

section
variable (s : State) (v : PortResult)
@[simp] theorem State.addResult_cfg : (s.addResult v).cfg = s.cfg := rfl
@[simp] theorem State.addResult_q : (s.addResult v).q = s.q := rfl
@[simp] theorem State.addResult_st : (s.addResult v).st = s.st := rfl
@[simp] theorem State.addResult_ty : (s.addResult v).ty = s.ty := rfl
@[simp] theorem State.addResult_wc : (s.addResult v).wc = s.wc := rfl
@[simp] theorem State.addResult_fb : (s.addResult v).fb = s.fb := rfl
@[simp] theorem State.addResult_idx0 : (s.addResult v).idx0 = s.idx0 := rfl
@[simp] theorem State.addResult_idx1 : (s.addResult v).idx1 = s.idx1 := rfl
@[simp] theorem State.addResult_idx2 : (s.addResult v).idx2 = s.idx2 := rfl
@[simp] theorem State.addResult_sc : (s.addResult v).sc = s.sc := rfl
@[simp] theorem State.addResult_hxC0 : (s.addResult v).hxC0 = s.hxC0 := rfl
@[simp] theorem State.addResult_hxC1 : (s.addResult v).hxC1 = s.hxC1 := rfl
@[simp] theorem State.addResult_hxFill : (s.addResult v).hxFill = s.hxFill := rfl
@[simp] theorem State.addResult_fault : (s.addResult v).fault = s.fault := rfl
@[simp] theorem State.addResult_producer : (s.addResult v).producer = s.producer := rfl
@[simp] theorem State.addResult_consumer : (s.addResult v).consumer = s.consumer := rfl
@[simp] theorem State.addResult_inputs : (s.addResult v).inputs = s.inputs := rfl
@[simp] theorem State.addResult_outputs : (s.addResult v).outputs = s.outputs := rfl
@[simp] theorem State.addResult_results : (s.addResult v).results = s.results ++ [v] := rfl
@[simp] theorem State.addResult_drawn : (s.addResult v).drawn = s.drawn := rfl
@[simp] theorem State.addResult_fbBase : (s.addResult v).fbBase = s.fbBase := rfl
end

end Sys2Proof.Machine
end

