-- ==== Sys2Proof/Laws/Memory.lean ====
section
/-! SUPPORT. The byte storage: a write keeps the canonical form and changes one byte. -/

namespace Sys2Proof.Machine

theorem Memory.risingFrom_write {lo : Nat} {m : List Host.Cell} {i : Nat} {b : Byte}
    (hm : Memory.risingFrom lo m = true) (hi : lo < i) :
    Memory.risingFrom lo (Memory.write m i b) = true := by
  induction m generalizing lo with
  | nil => simpa [Memory.write, Memory.risingFrom] using hi
  | cons c rest ih =>
    obtain ⟨a, x⟩ := c
    simp only [Memory.risingFrom, Bool.and_eq_true, decide_eq_true_eq] at hm
    simp only [Memory.write]
    split
    · simp_all [Memory.risingFrom]
    · split
      · simp_all [Memory.risingFrom]
      · simp only [Memory.risingFrom, Bool.and_eq_true, decide_eq_true_eq]
        exact ⟨hm.1, ih hm.2 (by omega)⟩

/-- Every write keeps the canonical form. -/
theorem Memory.wf_write {m : List Host.Cell} {i : Nat} {b : Byte}
    (hm : Memory.wf m = true) : Memory.wf (Memory.write m i b) = true := by
  cases m with
  | nil => rfl
  | cons c rest =>
    obtain ⟨a, x⟩ := c
    simp only [Memory.wf] at hm
    simp only [Memory.write]
    split
    · simp_all [Memory.wf, Memory.risingFrom]
    · split
      · simp_all [Memory.wf]
      · exact Memory.risingFrom_write hm (by omega)

/-- The byte written is the byte read back. -/
theorem Memory.read_write_same (m : List Host.Cell) (i : Nat) (b : Byte) :
    Memory.read (Memory.write m i b) i = some b := by
  induction m with
  | nil => simp [Memory.write, Memory.read]
  | cons c rest ih =>
    obtain ⟨a, x⟩ := c
    simp only [Memory.write]
    split
    · simp [Memory.read]
    · split
      · simp [Memory.read]
      · simp only [Memory.read]
        rw [if_neg (by omega)]
        exact ih

/-- Every other byte reads as before. -/
theorem Memory.read_write_other {m : List Host.Cell} {i j : Nat} {b : Byte} (h : j ≠ i) :
    Memory.read (Memory.write m i b) j = Memory.read m j := by
  induction m with
  | nil => simp [Memory.write, Memory.read, Ne.symm h]
  | cons c rest ih =>
    obtain ⟨a, x⟩ := c
    simp only [Memory.write]
    split
    · simp [Memory.read, Ne.symm h]
    · split
      · subst_vars; simp [Memory.read, Ne.symm h]
      · simp only [Memory.read, ih]

/-- A cell after a write is the new one or an old one. -/
theorem Memory.mem_write {m : List Host.Cell} {i : Nat} {b : Byte} {c : Host.Cell}
    (h : c ∈ Memory.write m i b) : c = (i, b) ∨ c ∈ m := by
  induction m with
  | nil => simpa [Memory.write] using h
  | cons d rest ih =>
    obtain ⟨a, x⟩ := d
    simp only [Memory.write] at h
    split at h
    · simpa using h
    · split at h
      · rcases List.mem_cons.1 h with h | h
        · exact .inl h
        · exact .inr (List.mem_cons_of_mem _ h)
      · rcases List.mem_cons.1 h with h | h
        · exact .inr (h ▸ List.mem_cons_self)
        · exact (ih h).imp id (List.mem_cons_of_mem _)

/-- Below its first address a storage holds nothing. -/
theorem Memory.read_none_of_risingFrom {m : List Host.Cell} {lo i : Nat}
    (hm : Memory.risingFrom lo m = true) (hi : i ≤ lo) : Memory.read m i = none := by
  induction m generalizing lo with
  | nil => rfl
  | cons c rest ih =>
    obtain ⟨a, x⟩ := c
    simp only [Memory.risingFrom, Bool.and_eq_true, decide_eq_true_eq] at hm
    rw [Memory.read, if_neg (by omega)]
    exact ih hm.2 (by omega)

/-- Storing a byte of the Frame Buffer: that byte reads as stored. -/
theorem State.fbByte_write_same (s : State) (i : Nat) (b : Byte) :
    (s.setFb (Memory.write s.fb i b)).fbByte i = b := by
  simp [State.fbByte, Memory.read_write_same]

/-- Storing a byte of the Frame Buffer: every other byte reads as before. -/
theorem State.fbByte_write_other (s : State) {i j : Nat} (b : Byte) (h : j ≠ i) :
    (s.setFb (Memory.write s.fb i b)).fbByte j = s.fbByte j := by
  simp [State.fbByte, Memory.read_write_other h]

/-- What FbRead gives depends on the storage and its free values alone. -/
theorem State.fbByte_congr {s t : State} (hfb : s.fb = t.fb) (hbase : s.fbBase = t.fbBase)
    (i : Nat) : s.fbByte i = t.fbByte i := by
  simp [State.fbByte, hfb, hbase]

end Sys2Proof.Machine
end

