-- ==== Sys2Proof/Laws/Views.lean ====
section
/-! SUPPORT. What each update leaves of the views that Machine/Ops.lean computes from a state: the
context's identity, the running PROCESS, the next draw, the Frame Buffer's bytes, the halt, the pair
of `st` and `ty`, the two output streams. -/

namespace Sys2Proof.Machine

/-! ### The two output streams -/

@[simp] theorem callsOf_append (xs ys : List Output) :
    callsOf (xs ++ ys) = callsOf xs ++ callsOf ys := by
  induction xs with
  | nil => rfl
  | cons x xs ih => cases x <;> simp [callsOf, ih]

@[simp] theorem diagsOf_append (xs ys : List Output) :
    diagsOf (xs ++ ys) = diagsOf xs ++ diagsOf ys := by
  induction xs with
  | nil => rfl
  | cons x xs ih => cases x <;> simp [diagsOf, ih]

@[simp] theorem callsOf_nil : callsOf [] = [] := rfl
@[simp] theorem callsOf_call (c : Call) (xs : List Output) :
    callsOf (.call c :: xs) = c :: callsOf xs := rfl
@[simp] theorem callsOf_diag (d : Diag) (xs : List Output) :
    callsOf (.diag d :: xs) = callsOf xs := rfl
@[simp] theorem diagsOf_nil : diagsOf [] = [] := rfl
@[simp] theorem diagsOf_call (c : Call) (xs : List Output) :
    diagsOf (.call c :: xs) = diagsOf xs := rfl
@[simp] theorem diagsOf_diag (d : Diag) (xs : List Output) :
    diagsOf (.diag d :: xs) = d :: diagsOf xs := rfl

@[simp] theorem callsOf_map_call (cs : List Call) : callsOf (cs.map .call) = cs := by
  induction cs <;> simp_all
@[simp] theorem callsOf_map_diag (ds : List Diag) : callsOf (ds.map .diag) = [] := by
  induction ds <;> simp_all
@[simp] theorem diagsOf_map_call (cs : List Call) : diagsOf (cs.map .call) = [] := by
  induction cs <;> simp_all
@[simp] theorem diagsOf_map_diag (ds : List Diag) : diagsOf (ds.map .diag) = ds := by
  induction ds <;> simp_all

/-- Outputs that grow by calls and events grow both streams. -/
theorem State.streams_of_outputs {s t : State} {es : List Output}
    (h : t.outputs = s.outputs ++ es) :
    t.calls = s.calls ++ callsOf es ∧ t.diags = s.diags ++ diagsOf es := by
  simp [State.calls, State.diags, h]

section
variable (s : State) (v : List Byte)
@[simp] theorem State.setQ_calls : (s.setQ v).calls = s.calls := rfl
@[simp] theorem State.setQ_diags : (s.setQ v).diags = s.diags := rfl
@[simp] theorem State.setQ_ctxId : (s.setQ v).ctxId = s.ctxId := rfl
@[simp] theorem State.setQ_consuming : (s.setQ v).consuming = s.consuming := rfl
@[simp] theorem State.setQ_answer : (s.setQ v).answer = s.answer := rfl
@[simp] theorem State.setQ_fbByte : (s.setQ v).fbByte = s.fbByte := rfl
@[simp] theorem State.setQ_frameBytes : (s.setQ v).frameBytes = s.frameBytes := rfl
@[simp] theorem State.setQ_pairExists : (s.setQ v).pairExists = s.pairExists := rfl
@[simp] theorem State.setQ_halted : (s.setQ v).halted = s.halted := rfl
@[simp] theorem State.setQ_advance : (s.setQ v).advance = s.advance.setQ v := rfl
end

section
variable (s : State) (v : FrameState)
@[simp] theorem State.setSt_calls : (s.setSt v).calls = s.calls := rfl
@[simp] theorem State.setSt_diags : (s.setSt v).diags = s.diags := rfl
@[simp] theorem State.setSt_ctxId : (s.setSt v).ctxId = s.ctxId := rfl
@[simp] theorem State.setSt_consuming : (s.setSt v).consuming = s.consuming := rfl
@[simp] theorem State.setSt_answer : (s.setSt v).answer = s.answer := rfl
@[simp] theorem State.setSt_fbByte : (s.setSt v).fbByte = s.fbByte := rfl
@[simp] theorem State.setSt_frameBytes : (s.setSt v).frameBytes = s.frameBytes := rfl
@[simp] theorem State.setSt_halted : (s.setSt v).halted = s.halted := rfl
@[simp] theorem State.setSt_advance : (s.setSt v).advance = s.advance.setSt v := rfl
end

section
variable (s : State) (v : MsgType)
@[simp] theorem State.setTy_calls : (s.setTy v).calls = s.calls := rfl
@[simp] theorem State.setTy_diags : (s.setTy v).diags = s.diags := rfl
@[simp] theorem State.setTy_ctxId : (s.setTy v).ctxId = s.ctxId := rfl
@[simp] theorem State.setTy_consuming : (s.setTy v).consuming = s.consuming := rfl
@[simp] theorem State.setTy_answer : (s.setTy v).answer = s.answer := rfl
@[simp] theorem State.setTy_fbByte : (s.setTy v).fbByte = s.fbByte := rfl
@[simp] theorem State.setTy_frameBytes : (s.setTy v).frameBytes = s.frameBytes := rfl
@[simp] theorem State.setTy_halted : (s.setTy v).halted = s.halted := rfl
@[simp] theorem State.setTy_advance : (s.setTy v).advance = s.advance.setTy v := rfl
end

section
variable (s : State) (v : Nat)
@[simp] theorem State.setWc_calls : (s.setWc v).calls = s.calls := rfl
@[simp] theorem State.setWc_diags : (s.setWc v).diags = s.diags := rfl
@[simp] theorem State.setWc_ctxId : (s.setWc v).ctxId = s.ctxId := rfl
@[simp] theorem State.setWc_consuming : (s.setWc v).consuming = s.consuming := rfl
@[simp] theorem State.setWc_answer : (s.setWc v).answer = s.answer := rfl
@[simp] theorem State.setWc_fbByte : (s.setWc v).fbByte = s.fbByte := rfl
@[simp] theorem State.setWc_pairExists : (s.setWc v).pairExists = s.pairExists := rfl
@[simp] theorem State.setWc_halted : (s.setWc v).halted = s.halted := rfl
@[simp] theorem State.setWc_advance : (s.setWc v).advance = s.advance.setWc v := rfl
end

section
variable (s : State) (v : List Host.Cell)
@[simp] theorem State.setFb_calls : (s.setFb v).calls = s.calls := rfl
@[simp] theorem State.setFb_diags : (s.setFb v).diags = s.diags := rfl
@[simp] theorem State.setFb_ctxId : (s.setFb v).ctxId = s.ctxId := rfl
@[simp] theorem State.setFb_consuming : (s.setFb v).consuming = s.consuming := rfl
@[simp] theorem State.setFb_answer : (s.setFb v).answer = s.answer := rfl
@[simp] theorem State.setFb_pairExists : (s.setFb v).pairExists = s.pairExists := rfl
@[simp] theorem State.setFb_halted : (s.setFb v).halted = s.halted := rfl
@[simp] theorem State.setFb_advance : (s.setFb v).advance = s.advance.setFb v := rfl
end

section
variable (s : State) (v : Nat)
@[simp] theorem State.setIdx0_calls : (s.setIdx0 v).calls = s.calls := rfl
@[simp] theorem State.setIdx0_diags : (s.setIdx0 v).diags = s.diags := rfl
@[simp] theorem State.setIdx0_ctxId : (s.setIdx0 v).ctxId = s.ctxId := rfl
@[simp] theorem State.setIdx0_consuming : (s.setIdx0 v).consuming = s.consuming := rfl
@[simp] theorem State.setIdx0_answer : (s.setIdx0 v).answer = s.answer := rfl
@[simp] theorem State.setIdx0_fbByte : (s.setIdx0 v).fbByte = s.fbByte := rfl
@[simp] theorem State.setIdx0_frameBytes : (s.setIdx0 v).frameBytes = s.frameBytes := rfl
@[simp] theorem State.setIdx0_pairExists : (s.setIdx0 v).pairExists = s.pairExists := rfl
@[simp] theorem State.setIdx0_halted : (s.setIdx0 v).halted = s.halted := rfl
@[simp] theorem State.setIdx0_advance : (s.setIdx0 v).advance = s.advance.setIdx0 v := rfl
end

section
variable (s : State) (v : Nat)
@[simp] theorem State.setIdx1_calls : (s.setIdx1 v).calls = s.calls := rfl
@[simp] theorem State.setIdx1_diags : (s.setIdx1 v).diags = s.diags := rfl
@[simp] theorem State.setIdx1_ctxId : (s.setIdx1 v).ctxId = s.ctxId := rfl
@[simp] theorem State.setIdx1_consuming : (s.setIdx1 v).consuming = s.consuming := rfl
@[simp] theorem State.setIdx1_answer : (s.setIdx1 v).answer = s.answer := rfl
@[simp] theorem State.setIdx1_fbByte : (s.setIdx1 v).fbByte = s.fbByte := rfl
@[simp] theorem State.setIdx1_frameBytes : (s.setIdx1 v).frameBytes = s.frameBytes := rfl
@[simp] theorem State.setIdx1_pairExists : (s.setIdx1 v).pairExists = s.pairExists := rfl
@[simp] theorem State.setIdx1_halted : (s.setIdx1 v).halted = s.halted := rfl
@[simp] theorem State.setIdx1_advance : (s.setIdx1 v).advance = s.advance.setIdx1 v := rfl
end

section
variable (s : State) (v : Nat)
@[simp] theorem State.setIdx2_calls : (s.setIdx2 v).calls = s.calls := rfl
@[simp] theorem State.setIdx2_diags : (s.setIdx2 v).diags = s.diags := rfl
@[simp] theorem State.setIdx2_ctxId : (s.setIdx2 v).ctxId = s.ctxId := rfl
@[simp] theorem State.setIdx2_consuming : (s.setIdx2 v).consuming = s.consuming := rfl
@[simp] theorem State.setIdx2_answer : (s.setIdx2 v).answer = s.answer := rfl
@[simp] theorem State.setIdx2_fbByte : (s.setIdx2 v).fbByte = s.fbByte := rfl
@[simp] theorem State.setIdx2_frameBytes : (s.setIdx2 v).frameBytes = s.frameBytes := rfl
@[simp] theorem State.setIdx2_pairExists : (s.setIdx2 v).pairExists = s.pairExists := rfl
@[simp] theorem State.setIdx2_halted : (s.setIdx2 v).halted = s.halted := rfl
@[simp] theorem State.setIdx2_advance : (s.setIdx2 v).advance = s.advance.setIdx2 v := rfl
end

section
variable (s : State) (v : Nat)
@[simp] theorem State.setSc_calls : (s.setSc v).calls = s.calls := rfl
@[simp] theorem State.setSc_diags : (s.setSc v).diags = s.diags := rfl
@[simp] theorem State.setSc_ctxId : (s.setSc v).ctxId = s.ctxId := rfl
@[simp] theorem State.setSc_consuming : (s.setSc v).consuming = s.consuming := rfl
@[simp] theorem State.setSc_answer : (s.setSc v).answer = s.answer := rfl
@[simp] theorem State.setSc_fbByte : (s.setSc v).fbByte = s.fbByte := rfl
@[simp] theorem State.setSc_frameBytes : (s.setSc v).frameBytes = s.frameBytes := rfl
@[simp] theorem State.setSc_pairExists : (s.setSc v).pairExists = s.pairExists := rfl
@[simp] theorem State.setSc_halted : (s.setSc v).halted = s.halted := rfl
@[simp] theorem State.setSc_advance : (s.setSc v).advance = s.advance.setSc v := rfl
end

section
variable (s : State) (v : Byte)
@[simp] theorem State.setHxC0_calls : (s.setHxC0 v).calls = s.calls := rfl
@[simp] theorem State.setHxC0_diags : (s.setHxC0 v).diags = s.diags := rfl
@[simp] theorem State.setHxC0_ctxId : (s.setHxC0 v).ctxId = s.ctxId := rfl
@[simp] theorem State.setHxC0_consuming : (s.setHxC0 v).consuming = s.consuming := rfl
@[simp] theorem State.setHxC0_answer : (s.setHxC0 v).answer = s.answer := rfl
@[simp] theorem State.setHxC0_fbByte : (s.setHxC0 v).fbByte = s.fbByte := rfl
@[simp] theorem State.setHxC0_frameBytes : (s.setHxC0 v).frameBytes = s.frameBytes := rfl
@[simp] theorem State.setHxC0_pairExists : (s.setHxC0 v).pairExists = s.pairExists := rfl
@[simp] theorem State.setHxC0_halted : (s.setHxC0 v).halted = s.halted := rfl
@[simp] theorem State.setHxC0_advance : (s.setHxC0 v).advance = s.advance.setHxC0 v := rfl
end

section
variable (s : State) (v : Byte)
@[simp] theorem State.setHxC1_calls : (s.setHxC1 v).calls = s.calls := rfl
@[simp] theorem State.setHxC1_diags : (s.setHxC1 v).diags = s.diags := rfl
@[simp] theorem State.setHxC1_ctxId : (s.setHxC1 v).ctxId = s.ctxId := rfl
@[simp] theorem State.setHxC1_consuming : (s.setHxC1 v).consuming = s.consuming := rfl
@[simp] theorem State.setHxC1_answer : (s.setHxC1 v).answer = s.answer := rfl
@[simp] theorem State.setHxC1_fbByte : (s.setHxC1 v).fbByte = s.fbByte := rfl
@[simp] theorem State.setHxC1_frameBytes : (s.setHxC1 v).frameBytes = s.frameBytes := rfl
@[simp] theorem State.setHxC1_pairExists : (s.setHxC1 v).pairExists = s.pairExists := rfl
@[simp] theorem State.setHxC1_halted : (s.setHxC1 v).halted = s.halted := rfl
@[simp] theorem State.setHxC1_advance : (s.setHxC1 v).advance = s.advance.setHxC1 v := rfl
end

section
variable (s : State) (v : Bool)
@[simp] theorem State.setHxFill_calls : (s.setHxFill v).calls = s.calls := rfl
@[simp] theorem State.setHxFill_diags : (s.setHxFill v).diags = s.diags := rfl
@[simp] theorem State.setHxFill_ctxId : (s.setHxFill v).ctxId = s.ctxId := rfl
@[simp] theorem State.setHxFill_consuming : (s.setHxFill v).consuming = s.consuming := rfl
@[simp] theorem State.setHxFill_answer : (s.setHxFill v).answer = s.answer := rfl
@[simp] theorem State.setHxFill_fbByte : (s.setHxFill v).fbByte = s.fbByte := rfl
@[simp] theorem State.setHxFill_frameBytes : (s.setHxFill v).frameBytes = s.frameBytes := rfl
@[simp] theorem State.setHxFill_pairExists : (s.setHxFill v).pairExists = s.pairExists := rfl
@[simp] theorem State.setHxFill_halted : (s.setHxFill v).halted = s.halted := rfl
@[simp] theorem State.setHxFill_advance : (s.setHxFill v).advance = s.advance.setHxFill v := rfl
end

section
variable (s : State) (v : Option FatalFault)
@[simp] theorem State.setFault_calls : (s.setFault v).calls = s.calls := rfl
@[simp] theorem State.setFault_diags : (s.setFault v).diags = s.diags := rfl
@[simp] theorem State.setFault_ctxId : (s.setFault v).ctxId = s.ctxId := rfl
@[simp] theorem State.setFault_consuming : (s.setFault v).consuming = s.consuming := rfl
@[simp] theorem State.setFault_answer : (s.setFault v).answer = s.answer := rfl
@[simp] theorem State.setFault_fbByte : (s.setFault v).fbByte = s.fbByte := rfl
@[simp] theorem State.setFault_frameBytes : (s.setFault v).frameBytes = s.frameBytes := rfl
@[simp] theorem State.setFault_advance : (s.setFault v).advance = s.advance.setFault v := rfl
end

section
variable (s : State) (v : Producer)
@[simp] theorem State.setProducer_calls : (s.setProducer v).calls = s.calls := rfl
@[simp] theorem State.setProducer_diags : (s.setProducer v).diags = s.diags := rfl
@[simp] theorem State.setProducer_ctxId : (s.setProducer v).ctxId = s.ctxId := rfl
@[simp] theorem State.setProducer_consuming : (s.setProducer v).consuming = s.consuming := rfl
@[simp] theorem State.setProducer_answer : (s.setProducer v).answer = s.answer := rfl
@[simp] theorem State.setProducer_fbByte : (s.setProducer v).fbByte = s.fbByte := rfl
@[simp] theorem State.setProducer_frameBytes : (s.setProducer v).frameBytes = s.frameBytes := rfl
@[simp] theorem State.setProducer_pairExists : (s.setProducer v).pairExists = s.pairExists := rfl
@[simp] theorem State.setProducer_halted : (s.setProducer v).halted = s.halted := rfl
@[simp] theorem State.setProducer_advance : (s.setProducer v).advance = s.advance.setProducer v := rfl
end

section
variable (s : State) (v : Consumer)
@[simp] theorem State.setConsumer_calls : (s.setConsumer v).calls = s.calls := rfl
@[simp] theorem State.setConsumer_diags : (s.setConsumer v).diags = s.diags := rfl
@[simp] theorem State.setConsumer_fbByte : (s.setConsumer v).fbByte = s.fbByte := rfl
@[simp] theorem State.setConsumer_frameBytes : (s.setConsumer v).frameBytes = s.frameBytes := rfl
@[simp] theorem State.setConsumer_pairExists : (s.setConsumer v).pairExists = s.pairExists := rfl
@[simp] theorem State.setConsumer_halted : (s.setConsumer v).halted = s.halted := rfl
end

section
variable (s : State) (v : List Input)
@[simp] theorem State.setInputs_calls : (s.setInputs v).calls = s.calls := rfl
@[simp] theorem State.setInputs_diags : (s.setInputs v).diags = s.diags := rfl
@[simp] theorem State.setInputs_ctxId : (s.setInputs v).ctxId = s.ctxId := rfl
@[simp] theorem State.setInputs_consuming : (s.setInputs v).consuming = s.consuming := rfl
@[simp] theorem State.setInputs_answer : (s.setInputs v).answer = s.answer := rfl
@[simp] theorem State.setInputs_fbByte : (s.setInputs v).fbByte = s.fbByte := rfl
@[simp] theorem State.setInputs_frameBytes : (s.setInputs v).frameBytes = s.frameBytes := rfl
@[simp] theorem State.setInputs_pairExists : (s.setInputs v).pairExists = s.pairExists := rfl
@[simp] theorem State.setInputs_halted : (s.setInputs v).halted = s.halted := rfl
@[simp] theorem State.setInputs_advance : (s.setInputs v).advance = s.advance.setInputs v := rfl
end

section
variable (s : State) (v : Nat)
@[simp] theorem State.setDrawn_calls : (s.setDrawn v).calls = s.calls := rfl
@[simp] theorem State.setDrawn_diags : (s.setDrawn v).diags = s.diags := rfl
@[simp] theorem State.setDrawn_ctxId : (s.setDrawn v).ctxId = s.ctxId := rfl
@[simp] theorem State.setDrawn_consuming : (s.setDrawn v).consuming = s.consuming := rfl
@[simp] theorem State.setDrawn_fbByte : (s.setDrawn v).fbByte = s.fbByte := rfl
@[simp] theorem State.setDrawn_frameBytes : (s.setDrawn v).frameBytes = s.frameBytes := rfl
@[simp] theorem State.setDrawn_pairExists : (s.setDrawn v).pairExists = s.pairExists := rfl
@[simp] theorem State.setDrawn_halted : (s.setDrawn v).halted = s.halted := rfl
end

section
variable (s : State) (v : Nat)
@[simp] theorem State.setFbBase_calls : (s.setFbBase v).calls = s.calls := rfl
@[simp] theorem State.setFbBase_diags : (s.setFbBase v).diags = s.diags := rfl
@[simp] theorem State.setFbBase_ctxId : (s.setFbBase v).ctxId = s.ctxId := rfl
@[simp] theorem State.setFbBase_consuming : (s.setFbBase v).consuming = s.consuming := rfl
@[simp] theorem State.setFbBase_answer : (s.setFbBase v).answer = s.answer := rfl
@[simp] theorem State.setFbBase_pairExists : (s.setFbBase v).pairExists = s.pairExists := rfl
@[simp] theorem State.setFbBase_halted : (s.setFbBase v).halted = s.halted := rfl
@[simp] theorem State.setFbBase_advance : (s.setFbBase v).advance = s.advance.setFbBase v := rfl
end

section
variable (s : State) (v : Call)
@[simp] theorem State.addCall_calls : (s.addCall v).calls = s.calls ++ [v] := by
  simp [State.calls, State.addCall]
@[simp] theorem State.addCall_diags : (s.addCall v).diags = s.diags := by
  simp [State.diags, State.addCall]
@[simp] theorem State.addCall_ctxId : (s.addCall v).ctxId = s.ctxId := rfl
@[simp] theorem State.addCall_consuming : (s.addCall v).consuming = s.consuming := rfl
@[simp] theorem State.addCall_answer : (s.addCall v).answer = s.answer := rfl
@[simp] theorem State.addCall_fbByte : (s.addCall v).fbByte = s.fbByte := rfl
@[simp] theorem State.addCall_frameBytes : (s.addCall v).frameBytes = s.frameBytes := rfl
@[simp] theorem State.addCall_pairExists : (s.addCall v).pairExists = s.pairExists := rfl
@[simp] theorem State.addCall_halted : (s.addCall v).halted = s.halted := rfl
@[simp] theorem State.addCall_advance : (s.addCall v).advance = s.advance.addCall v := rfl
end

section
variable (s : State) (v : Diag)
@[simp] theorem State.emit_calls : (s.emit v).calls = s.calls := by
  simp [State.calls, State.emit]
@[simp] theorem State.emit_diags : (s.emit v).diags = s.diags ++ [v] := by
  simp [State.diags, State.emit]
@[simp] theorem State.emit_ctxId : (s.emit v).ctxId = s.ctxId := rfl
@[simp] theorem State.emit_consuming : (s.emit v).consuming = s.consuming := rfl
@[simp] theorem State.emit_answer : (s.emit v).answer = s.answer := rfl
@[simp] theorem State.emit_fbByte : (s.emit v).fbByte = s.fbByte := rfl
@[simp] theorem State.emit_frameBytes : (s.emit v).frameBytes = s.frameBytes := rfl
@[simp] theorem State.emit_pairExists : (s.emit v).pairExists = s.pairExists := rfl
@[simp] theorem State.emit_halted : (s.emit v).halted = s.halted := rfl
@[simp] theorem State.emit_advance : (s.emit v).advance = s.advance.emit v := rfl
end

section
variable (s : State) (v : PortResult)
@[simp] theorem State.addResult_calls : (s.addResult v).calls = s.calls := rfl
@[simp] theorem State.addResult_diags : (s.addResult v).diags = s.diags := rfl
@[simp] theorem State.addResult_ctxId : (s.addResult v).ctxId = s.ctxId := rfl
@[simp] theorem State.addResult_consuming : (s.addResult v).consuming = s.consuming := rfl
@[simp] theorem State.addResult_answer : (s.addResult v).answer = s.answer := rfl
@[simp] theorem State.addResult_fbByte : (s.addResult v).fbByte = s.fbByte := rfl
@[simp] theorem State.addResult_frameBytes : (s.addResult v).frameBytes = s.frameBytes := rfl
@[simp] theorem State.addResult_pairExists : (s.addResult v).pairExists = s.pairExists := rfl
@[simp] theorem State.addResult_halted : (s.addResult v).halted = s.halted := rfl
@[simp] theorem State.addResult_advance : (s.addResult v).advance = s.advance.addResult v := rfl
end

end Sys2Proof.Machine
end

