-- ==== Sys2Proof/Laws/Ops.lean ====
section
/-! SUPPORT. What each shared operation can do, said once: if it answers a next state, then which.
The proofs cite these and do not unfold the operations. -/

namespace Sys2Proof.Machine

/-! ### Sequencing -/

@[simp] theorem andThen_next (s : State) (k : State → Out) : andThen (.next s) k = k s := rfl
@[simp] theorem andThen_fault (f : Fault) (k : State → Out) : andThen (.fault f) k = .fault f := rfl
@[simp] theorem andThen_refused (r : Refusal) (k : State → Out) :
    andThen (.refused r) k = .refused r := rfl

theorem andThen_eq_next {o : Out} {k : State → Out} {t : State} :
    andThen o k = .next t ↔ ∃ s, o = .next s ∧ k s = .next t := by
  cases o <;> simp [andThen]

theorem andThen_eq_fault {o : Out} {k : State → Out} {f : Fault} :
    andThen o k = .fault f ↔ o = .fault f ∨ ∃ s, o = .next s ∧ k s = .fault f := by
  cases o <;> simp [andThen]

theorem andThen_assoc (o : Out) (k l : State → Out) :
    andThen (andThen o k) l = andThen o (fun s => andThen (k s) l) := by
  cases o <;> rfl

/-! ### Selection -/

@[simp] theorem whenSelected_of_selects {i : Instr} {s : State} {body : Out}
    (h : s.selects i = true) : whenSelected i s body = body := by simp [whenSelected, h]

@[simp] theorem whenSelected_of_not {i : Instr} {s : State} {body : Out}
    (h : s.selects i = false) : whenSelected i s body = .refused .notSelected := by
  simp [whenSelected, h]

theorem whenSelected_eq_next {i : Instr} {s t : State} {body : Out} :
    whenSelected i s body = .next t ↔ s.selects i = true ∧ body = .next t := by
  cases h : s.selects i <;> simp [whenSelected, h]

theorem whenSelected_eq_fault {i : Instr} {s : State} {body : Out} {f : Fault} :
    whenSelected i s body = .fault f ↔ s.selects i = true ∧ body = .fault f := by
  cases h : s.selects i <;> simp [whenSelected, h]

theorem State.selects_iff {s : State} {i : Instr} :
    s.selects i = true ↔ s.consuming = true ∧ s.pairExists = true ∧
      i.guard s.st s.ty = true ∧ i.wf = true := by
  simp [State.selects, and_assoc]

/-! ### Calls -/

/-- A call that goes on has drawn a response and goes on with the draw used up. -/
theorem callThen_eq_next {s t : State} {k : Response → State → Out} :
    callThen s k = .next t ↔ ∃ r, s.answer = some r ∧ k r s.advance = .next t := by
  cases h : s.answer <;> simp [callThen, h]

theorem callThen_eq_fault {s : State} {k : Response → State → Out} {f : Fault} :
    callThen s k = .fault f ↔ ∃ r, s.answer = some r ∧ k r s.advance = .fault f := by
  cases h : s.answer <;> simp [callThen, h]

theorem callThen_of_answer {s : State} {r : Response} {k : Response → State → Out}
    (h : s.answer = some r) : callThen s k = k r s.advance := by simp [callThen, h]

theorem callThen_of_none {s : State} {k : Response → State → Out} (h : s.answer = none) :
    callThen s k = .refused .collaboratorReentry := by simp [callThen, h]

/-- Using up a draw writes the consumer's remaining answers or the count of free values. -/
theorem State.advance_eq (s : State) :
    s.advance = { s with consumer := s.advance.consumer, drawn := s.advance.drawn } := rfl

section
variable (s : State)
@[simp] theorem State.advance_cfg : s.advance.cfg = s.cfg := rfl
@[simp] theorem State.advance_q : s.advance.q = s.q := rfl
@[simp] theorem State.advance_st : s.advance.st = s.st := rfl
@[simp] theorem State.advance_ty : s.advance.ty = s.ty := rfl
@[simp] theorem State.advance_wc : s.advance.wc = s.wc := rfl
@[simp] theorem State.advance_fb : s.advance.fb = s.fb := rfl
@[simp] theorem State.advance_idx0 : s.advance.idx0 = s.idx0 := rfl
@[simp] theorem State.advance_idx1 : s.advance.idx1 = s.idx1 := rfl
@[simp] theorem State.advance_idx2 : s.advance.idx2 = s.idx2 := rfl
@[simp] theorem State.advance_sc : s.advance.sc = s.sc := rfl
@[simp] theorem State.advance_hxC0 : s.advance.hxC0 = s.hxC0 := rfl
@[simp] theorem State.advance_hxC1 : s.advance.hxC1 = s.hxC1 := rfl
@[simp] theorem State.advance_hxFill : s.advance.hxFill = s.hxFill := rfl
@[simp] theorem State.advance_fault : s.advance.fault = s.fault := rfl
@[simp] theorem State.advance_producer : s.advance.producer = s.producer := rfl
@[simp] theorem State.advance_inputs : s.advance.inputs = s.inputs := rfl
@[simp] theorem State.advance_outputs : s.advance.outputs = s.outputs := rfl
@[simp] theorem State.advance_calls : s.advance.calls = s.calls := rfl
@[simp] theorem State.advance_diags : s.advance.diags = s.diags := rfl
@[simp] theorem State.advance_results : s.advance.results = s.results := rfl
@[simp] theorem State.advance_fbBase : s.advance.fbBase = s.fbBase := rfl
end

@[simp] theorem State.advance_consuming (s : State) : s.advance.consuming = s.consuming := by
  unfold State.advance State.consuming
  cases s.consumer <;> rfl

@[simp] theorem State.advance_ctxId (s : State) : s.advance.ctxId = s.ctxId := by
  unfold State.advance State.ctxId
  cases s.consumer <;> rfl

@[simp] theorem State.advance_fbByte (s : State) : s.advance.fbByte = s.fbByte := rfl
@[simp] theorem State.advance_frameBytes (s : State) : s.advance.frameBytes = s.frameBytes := rfl
@[simp] theorem State.advance_pairExists (s : State) : s.advance.pairExists = s.pairExists := rfl
@[simp] theorem State.advance_halted (s : State) : s.advance.halted = s.halted := rfl

/-- Draws depend on the consumer and the count alone. -/
theorem State.answer_congr {s t : State} (hc : s.consumer = t.consumer) (hd : s.drawn = t.drawn) :
    s.answer = t.answer := by
  simp [State.answer, hc, hd]

/-! ### The fatal fault -/

theorem raiseFatal_eq (f : FatalFault) (s : State) :
    raiseFatal f s = { s with fault := if s.fault = none then some f else s.fault } := by
  unfold raiseFatal
  cases h : s.fault with
  | none => simp [State.setFault]
  | some g => cases s; simp_all

@[simp] theorem raiseFatal_outputs (f : FatalFault) (s : State) :
    (raiseFatal f s).outputs = s.outputs := by unfold raiseFatal; split <;> rfl
@[simp] theorem raiseFatal_calls (f : FatalFault) (s : State) :
    (raiseFatal f s).calls = s.calls := by simp [State.calls]
@[simp] theorem raiseFatal_diags (f : FatalFault) (s : State) :
    (raiseFatal f s).diags = s.diags := by simp [State.diags]

/-! ### The queue and the Frame Buffer -/

theorem qPush_eq_next {b : Byte} {s t : State} :
    qPush b s = .next t ↔ s.q.length < s.cfg.qcap ∧ t = s.setQ (s.q ++ [b]) := by
  unfold qPush
  split <;> simp_all [eq_comm]

theorem qPush_eq_fault {b : Byte} {s : State} {f : Fault} :
    qPush b s = .fault f ↔ s.cfg.qcap ≤ s.q.length ∧ f = .queueCapacity := by
  unfold qPush
  split <;> simp_all [eq_comm]

theorem fbWrite_eq_next {i : Nat} {b : Byte} {s t : State} :
    fbWrite i b s = .next t ↔ i < s.cfg.fbcap ∧ t = s.setFb (Memory.write s.fb i b) := by
  unfold fbWrite
  split <;> simp_all [eq_comm]

/-- R147: an append that goes on either raised the fault, or stored one byte and moved the cursor. -/
theorem fbAppend_eq_next {b : Byte} {stored : State → State} {s t : State} :
    fbAppend b stored s = .next t ↔
      (s.wc = s.cfg.fbcap ∧ t = raiseFatal (.frameBufferOverflow b) s) ∨
      (s.wc < s.cfg.fbcap ∧
        t = stored ((s.setFb (Memory.write s.fb s.wc b)).setWc (s.wc + 1))) := by
  unfold fbAppend fbWrite
  by_cases h : s.wc = s.cfg.fbcap
  · simp [h, eq_comm]
  · by_cases h' : s.wc < s.cfg.fbcap <;> simp [h, h', eq_comm]

theorem fbAppend_eq_fault {b : Byte} {stored : State → State} {s : State} {f : Fault} :
    fbAppend b stored s = .fault f ↔ s.cfg.fbcap < s.wc ∧ f = .frameBufferIndex s.wc := by
  unfold fbAppend fbWrite
  by_cases h : s.wc = s.cfg.fbcap
  · simp [h]
  · by_cases h' : s.wc < s.cfg.fbcap
    · simp [h, h']; omega
    · have : s.cfg.fbcap < s.wc := by omega
      simp [h, h', this, eq_comm]

theorem withFrameBytes_of_le {s : State} {k : List Byte → Out} (h : s.wc ≤ s.cfg.fbcap) :
    withFrameBytes s k = k s.frameBytes := by simp [withFrameBytes, h]

theorem withFrameBytes_of_lt {s : State} {k : List Byte → Out} (h : s.cfg.fbcap < s.wc) :
    withFrameBytes s k = .fault (.frameBufferIndex s.cfg.fbcap) := by
  simp [withFrameBytes, Nat.not_le.2 h]

theorem withFrameBytes_eq_next {s t : State} {k : List Byte → Out} :
    withFrameBytes s k = .next t ↔ s.wc ≤ s.cfg.fbcap ∧ k s.frameBytes = .next t := by
  unfold withFrameBytes
  split <;> simp_all

/-! ### The decoder -/

/-- R113: a first character. -/
theorem feed_first {b : Byte} {s : State} (h : s.hxFill = false) :
    feedResult b s = .pending ∧ feedState b s = { s with hxC0 := b, hxFill := true } := by
  simp [feedResult, feedState, h, State.setHxC0, State.setHxFill]

/-- R113: a second character completes the pair, and the decoder is reset. -/
theorem feed_second {b : Byte} {s : State} (h : s.hxFill = true) :
    feedResult b s = (match hexPair s.hxC0 b with | some v => .value v | none => .invalid) ∧
    feedState b s = { s with hxC1 := b, hxFill := false } := by
  unfold feedResult feedState
  rw [h]
  exact ⟨rfl, rfl⟩

/-- R113: feeding writes the decoder's registers alone. -/
theorem feedState_eq (b : Byte) (s : State) :
    feedState b s = { s with
      hxC0 := (feedState b s).hxC0, hxC1 := (feedState b s).hxC1,
      hxFill := (feedState b s).hxFill } := by
  cases h : s.hxFill
  · rw [(feed_first h).2]
  · rw [(feed_second h).2]

end Sys2Proof.Machine
end

