-- ==== Sys2Proof/Laws/Handlers.lean ====
section
/-! SUPPORT. What the byte handlers can do, said once: `HandlerStep s i t` lists, handler by handler,
the next states that `exec i s` can answer. Whole-machine proofs go by cases on it. -/

namespace Sys2Proof.Machine

/-- The next states of a handler, one constructor per way it can end. -/
inductive HandlerStep (s : State) : Instr → State → Prop where
  | stxIdle (h : s.st = .wait) : HandlerStep s .stx (startFrame s)
  | stxMidFrame (h : s.st ≠ .wait) :
      HandlerStep s .stx (startFrame (s.emit (.partialFrame s.st)))
  | etxWait (h : s.st = .wait) : HandlerStep s .etxWait s
  | etxUnknown (h : s.st ≠ .wait) (ht : s.ty = .unknown) : HandlerStep s .etx (s.setSt .wait)
  | etxVerified (h : s.st ≠ .wait) (ht : s.ty = .application) (r : Response)
      (ha : s.answer = some r) (hr : unitResult r = .ok ()) :
      HandlerStep s .etx (((s.setSt .wait).advance).addCall (.verify (.ok ())))
  | etxVerifyFailed (h : s.st ≠ .wait) (ht : s.ty = .application) (r r' : Response)
      (e : CollabError) (ha : s.answer = some r) (hr : unitResult r = .err e)
      (ha' : s.advance.answer = some r') :
      HandlerStep s .etx
        ((((((s.setSt .wait).advance).addCall (.verify (.err e))).advance).addCall
          (.status (statusResult r'))).emit (.verifyFail e (statusResult r')))
  | etxAdded (h : s.st ≠ .wait) (ht : s.ty = .notification) (hw : s.wc ≤ s.cfg.fbcap)
      (r : Response) (ha : s.answer = some r) (hr : unitResult r = .ok ()) :
      HandlerStep s .etx
        ((((s.setSt .wait).setIdx2 s.sc).advance).addCall
          (.add s.frameBytes s.idx0 s.idx1 s.sc (.ok ())))
  | etxAddFailed (h : s.st ≠ .wait) (ht : s.ty = .notification) (hw : s.wc ≤ s.cfg.fbcap)
      (r : Response) (e : CollabError) (ha : s.answer = some r) (hr : unitResult r = .err e) :
      HandlerStep s .etx
        (((((s.setSt .wait).setIdx2 s.sc).advance).addCall
          (.add s.frameBytes s.idx0 s.idx1 s.sc (.err e))).emit (.notifyReject e))
  | etxExecuted (h : s.st ≠ .wait) (ht : s.ty = .syscall) (hw : s.wc ≤ s.cfg.fbcap)
      (r r' : Response) (cmd : SyscallValue) (ha : s.answer = some r)
      (hr : parseResult r = .ok cmd) (ha' : s.advance.answer = some r') :
      HandlerStep s .etx
        (((((s.setSt .wait).advance).addCall (.parse s.frameBytes (.ok cmd))).advance).addCall
          (.execute cmd s.ctxId))
  | etxParseFailed (h : s.st ≠ .wait) (ht : s.ty = .syscall) (hw : s.wc ≤ s.cfg.fbcap)
      (r : Response) (e : CollabError) (ha : s.answer = some r) (hr : parseResult r = .err e) :
      HandlerStep s .etx
        ((((s.setSt .wait).advance).addCall (.parse s.frameBytes (.err e))).emit
          (.syscallParseFail e))
  | etxHandedOver (h : s.st ≠ .wait) (k : Nat) (ht : s.ty = .ext k) (op : String)
      (ho : extTarget s.cfg.extDispatch k = some op) (hw : s.wc ≤ s.cfg.fbcap)
      (r : Response) (ha : s.answer = some r) :
      HandlerStep s .etx
        (((s.setSt .wait).advance).addCall (.extDispatch k op s.frameBytes))
  | usWait (h : s.st = .wait) : HandlerStep s .usWait s
  | usInitUnknown (h : s.st = .init) (ht : s.ty = .unknown) :
      HandlerStep s .usInitUnknown (abortFrame .usUnknownType s)
  | killed (h : s.st = .init) (ht : s.ty = .application) (r : Response)
      (ha : s.answer = some r) (hr : unitResult r = .ok ()) :
      HandlerStep s .usInitApplication
        (((s.advance).addCall (.kill (.ok ()))).setSt .applicationChecksum)
  | killFailed (h : s.st = .init) (ht : s.ty = .application) (r : Response) (e : CollabError)
      (ha : s.answer = some r) (hr : unitResult r = .err e) :
      HandlerStep s .usInitApplication
        (abortFrame (.killReject e) ((s.advance).addCall (.kill (.err e))))
  | usInitNotification (h : s.st = .init) (ht : s.ty = .notification) :
      HandlerStep s .usInitNotification (s.setSt .notificationSource)
  | usInitSyscall (h : s.st = .init) (ht : s.ty = .syscall) :
      HandlerStep s .usInitSyscall (s.setSt .payload)
  | usInitExt (h : s.st = .init) (k : Nat) (ht : s.ty = .ext k) :
      HandlerStep s .usInitExt (s.setSt .payload)
  | usPayload (h : s.st = .payload) : HandlerStep s .usPayload (s.setSt .payload)
  | usApplicationChecksum (h : s.st = .applicationChecksum) :
      HandlerStep s .usApplicationChecksum (s.setSt .applicationStore)
  | usApplicationStore (h : s.st = .applicationStore) :
      HandlerStep s .usApplicationStore (abortFrame (.dupSeparator .applicationStore) s)
  | usNotificationSource (h : s.st = .notificationSource) :
      HandlerStep s .usNotificationSource ((s.setIdx0 s.sc).setSt .notificationTitle)
  | usNotificationTitle (h : s.st = .notificationTitle) :
      HandlerStep s .usNotificationTitle ((s.setIdx1 s.sc).setSt .notificationBody)
  | usNotificationBody (h : s.st = .notificationBody) :
      HandlerStep s .usNotificationBody (abortFrame (.dupSeparator .notificationBody) s)
  | dataWait (d : Byte) (h : s.st = .wait) : HandlerStep s (.dataWait d) s
  | typeKnown (d : Byte) (h : s.st = .init) (hd : isData d = true)
      (ht : classify s.cfg d ≠ .unknown) :
      HandlerStep s (.dataInit d) (s.setTy (classify s.cfg d))
  | typeUnknown (d : Byte) (h : s.st = .init) (hd : isData d = true)
      (ht : classify s.cfg d = .unknown) :
      HandlerStep s (.dataInit d) (abortFrame (.unknownType d) (s.setTy .unknown))
  | payloadStored (d : Byte) (h : s.st = .payload) (hd : isData d = true)
      (hw : s.wc < s.cfg.fbcap) :
      HandlerStep s (.dataPayload d)
        ((s.setFb (Memory.write s.fb s.wc d)).setWc (s.wc + 1))
  | payloadOverflow (d : Byte) (h : s.st = .payload) (hd : isData d = true)
      (hw : s.wc = s.cfg.fbcap) :
      HandlerStep s (.dataPayload d) (raiseFatal (.frameBufferOverflow d) s)
  | sectionStored (i : Instr) (d : Byte)
      (hi : (i = .dataNotificationSource d ∧ s.st = .notificationSource) ∨
        (i = .dataNotificationTitle d ∧ s.st = .notificationTitle) ∨
        (i = .dataNotificationBody d ∧ s.st = .notificationBody))
      (hd : isData d = true) (hw : s.wc < s.cfg.fbcap) :
      HandlerStep s i
        (((s.setFb (Memory.write s.fb s.wc d)).setWc (s.wc + 1)).setSc (s.sc + 1))
  | sectionOverflow (i : Instr) (d : Byte)
      (hi : (i = .dataNotificationSource d ∧ s.st = .notificationSource) ∨
        (i = .dataNotificationTitle d ∧ s.st = .notificationTitle) ∨
        (i = .dataNotificationBody d ∧ s.st = .notificationBody))
      (hd : isData d = true) (hw : s.wc = s.cfg.fbcap) :
      HandlerStep s i (raiseFatal (.frameBufferOverflow d) s)
  | firstCharacter (i : Instr) (d : Byte)
      (hi : (i = .dataApplicationChecksum d ∧ s.st = .applicationChecksum) ∨
        (i = .dataApplicationStore d ∧ s.st = .applicationStore))
      (hd : isData d = true) (hf : s.hxFill = false) :
      HandlerStep s i ((s.setHxC0 d).setHxFill true)
  | badPair (i : Instr) (d : Byte)
      (hi : (i = .dataApplicationChecksum d ∧ s.st = .applicationChecksum) ∨
        (i = .dataApplicationStore d ∧ s.st = .applicationStore))
      (hd : isData d = true) (hf : s.hxFill = true) (hp : hexPair s.hxC0 d = none) :
      HandlerStep s i
        (abortFrame (.invalidHex s.hxC0 d) ((s.setHxC1 d).setHxFill false))
  | pairTaken (i : Instr) (d v : Byte) (r : Response) (c : Call)
      (hi : (i = .dataApplicationChecksum d ∧ s.st = .applicationChecksum ∧
          c = .writeChecksumByte v (.ok ())) ∨
        (i = .dataApplicationStore d ∧ s.st = .applicationStore ∧
          c = .writeRamByte v (.ok ())))
      (hd : isData d = true) (hf : s.hxFill = true) (hp : hexPair s.hxC0 d = some v)
      (ha : s.answer = some r) (hr : unitResult r = .ok ()) :
      HandlerStep s i ((((s.setHxC1 d).setHxFill false).advance).addCall c)
  | pairRejected (i : Instr) (d v : Byte) (r : Response) (e : CollabError) (c : Call) (g : Diag)
      (hi : (i = .dataApplicationChecksum d ∧ s.st = .applicationChecksum ∧
          c = .writeChecksumByte v (.err e) ∧ g = .checksumReject v e) ∨
        (i = .dataApplicationStore d ∧ s.st = .applicationStore ∧
          c = .writeRamByte v (.err e) ∧ g = .ramReject v e))
      (hd : isData d = true) (hf : s.hxFill = true) (hp : hexPair s.hxC0 d = some v)
      (ha : s.answer = some r) (hr : unitResult r = .err e) :
      HandlerStep s i
        (abortFrame g ((((s.setHxC1 d).setHxFill false).advance).addCall c))

/-- The Dispatcher's next states, on the state ETX has put in Wait. -/
theorem handlerStep_of_dispatch {s t : State} (hst : s.st ≠ .wait)
    (h : dispatch (s.setSt .wait) = .next t) : HandlerStep s .etx t := by
  unfold dispatch at h
  split at h <;> rename_i ht <;> rw [State.setSt_ty] at ht
  · cases h; exact .etxUnknown hst ht
  · simp only [dispatchApplication, callThen_eq_next] at h
    obtain ⟨r, ha, h⟩ := h
    split at h
    · rename_i hr; cases h; rw [hr]; exact .etxVerified hst ht r ha hr
    · rename_i e hr
      simp only [callThen_eq_next] at h
      obtain ⟨r', ha', h⟩ := h
      cases h; rw [hr]; exact .etxVerifyFailed hst ht r r' e ha hr ha'
  · simp only [dispatchNotification, withFrameBytes_eq_next, callThen_eq_next] at h
    obtain ⟨hw, r, ha, h⟩ := h
    split at h
    · rename_i hr; cases h; rw [hr]; exact .etxAdded hst ht hw r ha hr
    · rename_i e hr; cases h; rw [hr]; exact .etxAddFailed hst ht hw r e ha hr
  · simp only [dispatchSyscall, withFrameBytes_eq_next, callThen_eq_next] at h
    obtain ⟨hw, r, ha, h⟩ := h
    split at h
    · rename_i cmd hr
      simp only [callThen_eq_next] at h
      obtain ⟨r', ha', h⟩ := h
      cases h
      have hid : (((s.setSt .wait).advance).addCall
          (.parse (s.setSt .wait).frameBytes (parseResult r))).advance.ctxId = s.ctxId :=
        (State.advance_ctxId _).trans (State.advance_ctxId s)
      rw [hid, hr]
      exact .etxExecuted hst ht hw r r' cmd ha hr ha'
    · rename_i e hr; cases h; rw [hr]; exact .etxParseFailed hst ht hw r e ha hr
  · rename_i k
    unfold dispatchExt at h
    split at h
    · rename_i op ho
      simp only [withFrameBytes_eq_next, callThen_eq_next] at h
      obtain ⟨hw, r, ha, h⟩ := h
      cases h; exact .etxHandedOver hst k ht op ho hw r ha
    · cases h

/-- What feeding a character to the decoder and its sink can end in (R152, R153). -/
theorem decodeCharacter_eq_next {d : Byte} {call : Byte → Result Unit → Call}
    {reject : Byte → CollabError → Diag} {s t : State}
    (h : decodeCharacter d call reject s = .next t) :
    (s.hxFill = false ∧ t = (s.setHxC0 d).setHxFill true) ∨
    (s.hxFill = true ∧ hexPair s.hxC0 d = none ∧
      t = abortFrame (.invalidHex s.hxC0 d) ((s.setHxC1 d).setHxFill false)) ∨
    (s.hxFill = true ∧ ∃ v r, hexPair s.hxC0 d = some v ∧ s.answer = some r ∧
      ((unitResult r = .ok () ∧
          t = (((s.setHxC1 d).setHxFill false).advance).addCall (call v (.ok ()))) ∨
        ∃ e, unitResult r = .err e ∧
          t = abortFrame (reject v e)
            ((((s.setHxC1 d).setHxFill false).advance).addCall (call v (.err e))))) := by
  cases hf : s.hxFill
  · simp only [decodeCharacter, (feed_first hf).1, (feed_first hf).2] at h
    cases h; exact .inl ⟨rfl, rfl⟩
  · simp only [decodeCharacter, (feed_second hf).1, (feed_second hf).2] at h
    cases hp : hexPair s.hxC0 d with
    | none => rw [hp] at h; cases h; exact .inr (.inl ⟨rfl, rfl, rfl⟩)
    | some v =>
      simp only [hp, callThen_eq_next] at h
      obtain ⟨r, ha, h⟩ := h
      refine .inr (.inr ⟨rfl, v, r, rfl, ha, ?_⟩)
      cases hr : unitResult r with
      | ok u => rw [hr] at h; cases h; exact .inl ⟨rfl, rfl⟩
      | err e => rw [hr] at h; cases h; exact .inr ⟨e, rfl, rfl⟩

/-- The inversion of the byte handlers: one that goes on was selected, and ends as listed. -/
theorem handlerStep_of_exec {i : Instr} {s t : State} (hi : i.isHandler = true)
    (h : exec i s = .next t) : s.selects i = true ∧ HandlerStep s i t := by
  cases i with
  | stx =>
    obtain ⟨hs, h⟩ := whenSelected_eq_next.1 h
    refine ⟨hs, ?_⟩
    by_cases hw : s.st = .wait
    · rw [if_pos hw] at h; cases h; exact .stxIdle hw
    · rw [if_neg hw] at h; cases h; exact .stxMidFrame hw
  | etxWait =>
    obtain ⟨hs, h⟩ := whenSelected_eq_next.1 h
    have hg := (State.selects_iff.1 hs).2.2
    simp [Instr.guard] at hg
    cases h; exact ⟨hs, .etxWait hg.1⟩
  | etx =>
    obtain ⟨hs, h⟩ := whenSelected_eq_next.1 h
    have hg := (State.selects_iff.1 hs).2.2
    simp [Instr.guard] at hg
    exact ⟨hs, handlerStep_of_dispatch hg.1 h⟩
  | usWait =>
    obtain ⟨hs, h⟩ := whenSelected_eq_next.1 h
    have hg := (State.selects_iff.1 hs).2.2
    simp [Instr.guard] at hg
    cases h; exact ⟨hs, .usWait hg.1⟩
  | usInitUnknown =>
    obtain ⟨hs, h⟩ := whenSelected_eq_next.1 h
    have hg := (State.selects_iff.1 hs).2.2
    simp [Instr.guard] at hg
    cases h; exact ⟨hs, .usInitUnknown hg.1.1 hg.1.2⟩
  | usInitApplication =>
    obtain ⟨hs, h⟩ := whenSelected_eq_next.1 h
    have hg := (State.selects_iff.1 hs).2.2
    simp [Instr.guard] at hg
    simp only [callThen_eq_next] at h
    obtain ⟨r, ha, h⟩ := h
    cases hr : unitResult r with
    | ok u => rw [hr] at h; cases h; exact ⟨hs, .killed hg.1.1 hg.1.2 r ha hr⟩
    | err e => rw [hr] at h; cases h; exact ⟨hs, .killFailed hg.1.1 hg.1.2 r e ha hr⟩
  | usInitNotification =>
    obtain ⟨hs, h⟩ := whenSelected_eq_next.1 h
    have hg := (State.selects_iff.1 hs).2.2
    simp [Instr.guard] at hg
    cases h; exact ⟨hs, .usInitNotification hg.1.1 hg.1.2⟩
  | usInitSyscall =>
    obtain ⟨hs, h⟩ := whenSelected_eq_next.1 h
    have hg := (State.selects_iff.1 hs).2.2
    simp [Instr.guard] at hg
    cases h; exact ⟨hs, .usInitSyscall hg.1.1 hg.1.2⟩
  | usInitExt =>
    obtain ⟨hs, h⟩ := whenSelected_eq_next.1 h
    have hg := (State.selects_iff.1 hs).2.2
    cases ht : s.ty <;> simp [Instr.guard, ht] at hg
    cases h; exact ⟨hs, .usInitExt hg.1 _ ht⟩
  | usPayload =>
    obtain ⟨hs, h⟩ := whenSelected_eq_next.1 h
    have hg := (State.selects_iff.1 hs).2.2
    simp [Instr.guard] at hg
    cases h; exact ⟨hs, .usPayload hg.1⟩
  | usApplicationChecksum =>
    obtain ⟨hs, h⟩ := whenSelected_eq_next.1 h
    have hg := (State.selects_iff.1 hs).2.2
    simp [Instr.guard] at hg
    cases h; exact ⟨hs, .usApplicationChecksum hg.1⟩
  | usApplicationStore =>
    obtain ⟨hs, h⟩ := whenSelected_eq_next.1 h
    have hg := (State.selects_iff.1 hs).2.2
    simp [Instr.guard] at hg
    cases h; exact ⟨hs, .usApplicationStore hg.1⟩
  | usNotificationSource =>
    obtain ⟨hs, h⟩ := whenSelected_eq_next.1 h
    have hg := (State.selects_iff.1 hs).2.2
    simp [Instr.guard] at hg
    cases h; exact ⟨hs, .usNotificationSource hg.1⟩
  | usNotificationTitle =>
    obtain ⟨hs, h⟩ := whenSelected_eq_next.1 h
    have hg := (State.selects_iff.1 hs).2.2
    simp [Instr.guard] at hg
    cases h; exact ⟨hs, .usNotificationTitle hg.1⟩
  | usNotificationBody =>
    obtain ⟨hs, h⟩ := whenSelected_eq_next.1 h
    have hg := (State.selects_iff.1 hs).2.2
    simp [Instr.guard] at hg
    cases h; exact ⟨hs, .usNotificationBody hg.1⟩
  | dataWait d =>
    obtain ⟨hs, h⟩ := whenSelected_eq_next.1 h
    have hg := (State.selects_iff.1 hs).2.2
    simp [Instr.guard] at hg
    cases h; exact ⟨hs, .dataWait d hg.1⟩
  | dataInit d =>
    obtain ⟨hs, h⟩ := whenSelected_eq_next.1 h
    have hg := (State.selects_iff.1 hs).2.2
    simp [Instr.guard, Instr.wf] at hg
    refine ⟨hs, ?_⟩
    by_cases ht : classify s.cfg d = .unknown
    · rw [if_pos ht, ht] at h; cases h; exact .typeUnknown d hg.1 hg.2 ht
    · rw [if_neg ht] at h; cases h; exact .typeKnown d hg.1 hg.2 ht
  | dataPayload d =>
    obtain ⟨hs, h⟩ := whenSelected_eq_next.1 h
    have hg := (State.selects_iff.1 hs).2.2
    simp [Instr.guard, Instr.wf] at hg
    rcases fbAppend_eq_next.1 h with ⟨hw, rfl⟩ | ⟨hw, rfl⟩
    · exact ⟨hs, .payloadOverflow d hg.1 hg.2 hw⟩
    · exact ⟨hs, .payloadStored d hg.1 hg.2 hw⟩
  | dataApplicationChecksum d =>
    obtain ⟨hs, h⟩ := whenSelected_eq_next.1 h
    have hg := (State.selects_iff.1 hs).2.2
    simp [Instr.guard, Instr.wf] at hg
    refine ⟨hs, ?_⟩
    rcases decodeCharacter_eq_next h with
      ⟨hf, rfl⟩ | ⟨hf, hp, rfl⟩ | ⟨hf, v, r, hp, ha, ⟨hr, rfl⟩ | ⟨e, hr, rfl⟩⟩
    · exact .firstCharacter _ d (.inl ⟨rfl, hg.1⟩) hg.2 hf
    · exact .badPair _ d (.inl ⟨rfl, hg.1⟩) hg.2 hf hp
    · exact .pairTaken _ d v r _ (.inl ⟨rfl, hg.1, rfl⟩) hg.2 hf hp ha hr
    · exact .pairRejected _ d v r e _ _ (.inl ⟨rfl, hg.1, rfl, rfl⟩) hg.2 hf hp ha hr
  | dataApplicationStore d =>
    obtain ⟨hs, h⟩ := whenSelected_eq_next.1 h
    have hg := (State.selects_iff.1 hs).2.2
    simp [Instr.guard, Instr.wf] at hg
    refine ⟨hs, ?_⟩
    rcases decodeCharacter_eq_next h with
      ⟨hf, rfl⟩ | ⟨hf, hp, rfl⟩ | ⟨hf, v, r, hp, ha, ⟨hr, rfl⟩ | ⟨e, hr, rfl⟩⟩
    · exact .firstCharacter _ d (.inr ⟨rfl, hg.1⟩) hg.2 hf
    · exact .badPair _ d (.inr ⟨rfl, hg.1⟩) hg.2 hf hp
    · exact .pairTaken _ d v r _ (.inr ⟨rfl, hg.1, rfl⟩) hg.2 hf hp ha hr
    · exact .pairRejected _ d v r e _ _ (.inr ⟨rfl, hg.1, rfl, rfl⟩) hg.2 hf hp ha hr
  | dataNotificationSource d =>
    obtain ⟨hs, h⟩ := whenSelected_eq_next.1 h
    have hg := (State.selects_iff.1 hs).2.2
    simp [Instr.guard, Instr.wf] at hg
    rcases fbAppend_eq_next.1 h with ⟨hw, rfl⟩ | ⟨hw, rfl⟩
    · exact ⟨hs, .sectionOverflow _ d (.inl ⟨rfl, hg.1⟩) hg.2 hw⟩
    · exact ⟨hs, .sectionStored _ d (.inl ⟨rfl, hg.1⟩) hg.2 hw⟩
  | dataNotificationTitle d =>
    obtain ⟨hs, h⟩ := whenSelected_eq_next.1 h
    have hg := (State.selects_iff.1 hs).2.2
    simp [Instr.guard, Instr.wf] at hg
    rcases fbAppend_eq_next.1 h with ⟨hw, rfl⟩ | ⟨hw, rfl⟩
    · exact ⟨hs, .sectionOverflow _ d (.inr (.inl ⟨rfl, hg.1⟩)) hg.2 hw⟩
    · exact ⟨hs, .sectionStored _ d (.inr (.inl ⟨rfl, hg.1⟩)) hg.2 hw⟩
  | dataNotificationBody d =>
    obtain ⟨hs, h⟩ := whenSelected_eq_next.1 h
    have hg := (State.selects_iff.1 hs).2.2
    simp [Instr.guard, Instr.wf] at hg
    rcases fbAppend_eq_next.1 h with ⟨hw, rfl⟩ | ⟨hw, rfl⟩
    · exact ⟨hs, .sectionOverflow _ d (.inr (.inr ⟨rfl, hg.1⟩)) hg.2 hw⟩
    · exact ⟨hs, .sectionStored _ d (.inr (.inr ⟨rfl, hg.1⟩)) hg.2 hw⟩
  | write bytes => cases hi
  | process ctx => cases hi
  | reset => cases hi

/-- A handler of a PROCESS runs as `exec` says. -/
theorem runHandler_eq_exec {i : Instr} (hi : i.isHandler = true) (s : State) :
    runHandler i s = exec i s := by
  cases i <;> first | rfl | cases hi

/-- The operation a byte selects is a byte handler. -/
theorem decodeByte_isHandler (st : FrameState) (ty : MsgType) (b : Byte) :
    (decodeByte st ty b).isHandler = true := by
  unfold decodeByte
  split
  · rfl
  · cases st <;> rfl
  · cases st <;> first | rfl | (cases ty <;> rfl)
  · cases st <;> rfl

/-- R130: Step runs the operation that the byte selects, where the pair exists. -/
theorem byteStep_eq_exec {s : State} (hp : s.pairExists = true) (b : Byte) :
    byteStep b s = exec (decodeByte s.st s.ty b) s := by
  simp only [byteStep, decode, show pairOk s.cfg.extTypes.length s.st s.ty = true from hp, if_true]
  exact runHandler_eq_exec (decodeByte_isHandler _ _ _) s

theorem byteStep_eq_next {b : Byte} {s t : State} (h : byteStep b s = .next t) :
    s.pairExists = true ∧ exec (decodeByte s.st s.ty b) s = .next t := by
  cases hp : s.pairExists
  · simp [byteStep, decode, show pairOk s.cfg.extTypes.length s.st s.ty = false from hp] at h
  · exact ⟨rfl, byteStep_eq_exec hp b ▸ h⟩

/-- R131: what the start of a frame writes. -/
theorem startFrame_eq (s : State) :
    startFrame s = { s with
      st := .init, ty := .unknown, wc := 0, idx0 := 0, idx1 := 0, idx2 := 0, sc := 0,
      hxFill := false } := by
  simp [startFrame, hexReset, State.setSt, State.setTy, State.setWc, State.setIdx0,
    State.setIdx1, State.setIdx2, State.setSc, State.setHxFill]

/-- The operation a byte selects passes its own row's guard and is well formed. -/
theorem decodeByte_guard_wf (st : FrameState) (ty : MsgType) (b : Byte) :
    (decodeByte st ty b).guard st ty = true ∧ (decodeByte st ty b).wf = true := by
  unfold decodeByte
  cases h : byteClass b
  · simp [Instr.guard, Instr.wf]
  · cases st <;> simp [decodeEtx, Instr.guard, Instr.wf]
  · cases st <;> (try cases ty) <;> simp [decodeUs, Instr.guard, Instr.wf]
  · have hd : isData b = true := by simp [isData, h]
    cases st <;> simp [decodeData, Instr.guard, Instr.wf, hd]

/-- R83, R130: in a running PROCESS a byte always has its operation selected. -/
theorem selects_decodeByte {s : State} (hp : s.pairExists = true)
    (hc : s.consuming = true) (b : Byte) : s.selects (decodeByte s.st s.ty b) = true :=
  State.selects_iff.2 ⟨hc, hp, (decodeByte_guard_wf _ _ _).1, (decodeByte_guard_wf _ _ _).2⟩

/-- Of the consumer a handler changes at most the answers its calls draw. -/
theorem HandlerStep.consumer {i : Instr} {s t : State} (h : HandlerStep s i t) :
    t.consumer = s.consumer ∨ t.consumer = s.advance.consumer ∨
      t.consumer = s.advance.advance.consumer := by
  cases h <;> simp [startFrame, hexReset, abortFrame, raiseFatal_eq]

/-- A handler leaves the queue, the parameters, the producer, the inputs and the results. -/
theorem HandlerStep.kept {i : Instr} {s t : State} (h : HandlerStep s i t) :
    t.q = s.q ∧ t.cfg = s.cfg ∧ t.producer = s.producer ∧ t.inputs = s.inputs ∧
      t.results = s.results := by
  cases h <;> simp [startFrame, hexReset, abortFrame, raiseFatal_eq]

end Sys2Proof.Machine
end

