-- ==== Sys2Proof/Laws/PerInstr.lean ====
section
/-! SUPPORT. The family `RoundTrip`: what the encoding says of each operation as syntax, one lemma
per constructor. -/

namespace Sys2Proof.Laws.RoundTrip

/-- R83 and the opcode table: a well-formed byte handler is read back from its bytes, and the rest
of the stream is left, in every frame state and type that exists and that its row names; a port
transaction has no bytes (R84). -/
def Statement (i : Instr) : Prop :=
  (i.isHandler = true → i.wf = true → ∀ nExt st ty rest, pairOk nExt st ty = true →
    i.guard st ty = true → decode nExt st ty (encode i ++ rest) = .ok (i, rest)) ∧
  (i.isHandler = false → encode i = [])

/-- A data byte is of class data. -/
theorem byteClass_of_isData {d : Byte} (h : isData d = true) : byteClass d = .data := by
  unfold isData at h
  split at h <;> first | assumption | cases h

theorem stx : Statement .stx := by
  refine ⟨fun _ _ _ st ty rest hp _ => ?_, fun h => by cases h⟩
  simp [encode, decode, hp, decodeByte, byteClass]

theorem etxWait : Statement .etxWait := by
  refine ⟨fun _ _ _ st ty rest hp hg => ?_, fun h => by cases h⟩
  simp [Instr.guard] at hg; subst hg
  simp [encode, decode, hp, decodeByte, byteClass, decodeEtx]

theorem etx : Statement .etx := by
  refine ⟨fun _ _ _ st ty rest hp hg => ?_, fun h => by cases h⟩
  cases st <;> simp [Instr.guard] at hg <;>
    simp [encode, decode, hp, decodeByte, byteClass, decodeEtx]

theorem usWait : Statement .usWait := by
  refine ⟨fun _ _ _ st ty rest hp hg => ?_, fun h => by cases h⟩
  simp [Instr.guard] at hg; subst hg
  simp [encode, decode, hp, decodeByte, byteClass, decodeUs]

theorem usInitUnknown : Statement .usInitUnknown := by
  refine ⟨fun _ _ _ st ty rest hp hg => ?_, fun h => by cases h⟩
  simp [Instr.guard] at hg; obtain ⟨rfl, rfl⟩ := hg
  simp [encode, decode, hp, decodeByte, byteClass, decodeUs]

theorem usInitApplication : Statement .usInitApplication := by
  refine ⟨fun _ _ _ st ty rest hp hg => ?_, fun h => by cases h⟩
  simp [Instr.guard] at hg; obtain ⟨rfl, rfl⟩ := hg
  simp [encode, decode, hp, decodeByte, byteClass, decodeUs]

theorem usInitNotification : Statement .usInitNotification := by
  refine ⟨fun _ _ _ st ty rest hp hg => ?_, fun h => by cases h⟩
  simp [Instr.guard] at hg; obtain ⟨rfl, rfl⟩ := hg
  simp [encode, decode, hp, decodeByte, byteClass, decodeUs]

theorem usInitSyscall : Statement .usInitSyscall := by
  refine ⟨fun _ _ _ st ty rest hp hg => ?_, fun h => by cases h⟩
  simp [Instr.guard] at hg; obtain ⟨rfl, rfl⟩ := hg
  simp [encode, decode, hp, decodeByte, byteClass, decodeUs]

theorem usInitExt : Statement .usInitExt := by
  refine ⟨fun _ _ _ st ty rest hp hg => ?_, fun h => by cases h⟩
  cases ty <;> simp [Instr.guard] at hg; subst hg
  simp [encode, decode, hp, decodeByte, byteClass, decodeUs]

theorem usPayload : Statement .usPayload := by
  refine ⟨fun _ _ _ st ty rest hp hg => ?_, fun h => by cases h⟩
  simp [Instr.guard] at hg; subst hg
  simp [encode, decode, hp, decodeByte, byteClass, decodeUs]

theorem usApplicationChecksum : Statement .usApplicationChecksum := by
  refine ⟨fun _ _ _ st ty rest hp hg => ?_, fun h => by cases h⟩
  simp [Instr.guard] at hg; subst hg
  simp [encode, decode, hp, decodeByte, byteClass, decodeUs]

theorem usApplicationStore : Statement .usApplicationStore := by
  refine ⟨fun _ _ _ st ty rest hp hg => ?_, fun h => by cases h⟩
  simp [Instr.guard] at hg; subst hg
  simp [encode, decode, hp, decodeByte, byteClass, decodeUs]

theorem usNotificationSource : Statement .usNotificationSource := by
  refine ⟨fun _ _ _ st ty rest hp hg => ?_, fun h => by cases h⟩
  simp [Instr.guard] at hg; subst hg
  simp [encode, decode, hp, decodeByte, byteClass, decodeUs]

theorem usNotificationTitle : Statement .usNotificationTitle := by
  refine ⟨fun _ _ _ st ty rest hp hg => ?_, fun h => by cases h⟩
  simp [Instr.guard] at hg; subst hg
  simp [encode, decode, hp, decodeByte, byteClass, decodeUs]

theorem usNotificationBody : Statement .usNotificationBody := by
  refine ⟨fun _ _ _ st ty rest hp hg => ?_, fun h => by cases h⟩
  simp [Instr.guard] at hg; subst hg
  simp [encode, decode, hp, decodeByte, byteClass, decodeUs]

theorem dataWait (d : Byte) : Statement (.dataWait d) := by
  refine ⟨fun _ hw _ st ty rest hp hg => ?_, fun h => by cases h⟩
  simp [Instr.guard] at hg; subst hg
  simp [encode, decode, hp, decodeByte, byteClass_of_isData hw, decodeData]

theorem dataInit (d : Byte) : Statement (.dataInit d) := by
  refine ⟨fun _ hw _ st ty rest hp hg => ?_, fun h => by cases h⟩
  simp [Instr.guard] at hg; subst hg
  simp [encode, decode, hp, decodeByte, byteClass_of_isData hw, decodeData]

theorem dataPayload (d : Byte) : Statement (.dataPayload d) := by
  refine ⟨fun _ hw _ st ty rest hp hg => ?_, fun h => by cases h⟩
  simp [Instr.guard] at hg; subst hg
  simp [encode, decode, hp, decodeByte, byteClass_of_isData hw, decodeData]

theorem dataApplicationChecksum (d : Byte) : Statement (.dataApplicationChecksum d) := by
  refine ⟨fun _ hw _ st ty rest hp hg => ?_, fun h => by cases h⟩
  simp [Instr.guard] at hg; subst hg
  simp [encode, decode, hp, decodeByte, byteClass_of_isData hw, decodeData]

theorem dataApplicationStore (d : Byte) : Statement (.dataApplicationStore d) := by
  refine ⟨fun _ hw _ st ty rest hp hg => ?_, fun h => by cases h⟩
  simp [Instr.guard] at hg; subst hg
  simp [encode, decode, hp, decodeByte, byteClass_of_isData hw, decodeData]

theorem dataNotificationSource (d : Byte) : Statement (.dataNotificationSource d) := by
  refine ⟨fun _ hw _ st ty rest hp hg => ?_, fun h => by cases h⟩
  simp [Instr.guard] at hg; subst hg
  simp [encode, decode, hp, decodeByte, byteClass_of_isData hw, decodeData]

theorem dataNotificationTitle (d : Byte) : Statement (.dataNotificationTitle d) := by
  refine ⟨fun _ hw _ st ty rest hp hg => ?_, fun h => by cases h⟩
  simp [Instr.guard] at hg; subst hg
  simp [encode, decode, hp, decodeByte, byteClass_of_isData hw, decodeData]

theorem dataNotificationBody (d : Byte) : Statement (.dataNotificationBody d) := by
  refine ⟨fun _ hw _ st ty rest hp hg => ?_, fun h => by cases h⟩
  simp [Instr.guard] at hg; subst hg
  simp [encode, decode, hp, decodeByte, byteClass_of_isData hw, decodeData]

theorem write (bytes : List Byte) : Statement (.write bytes) :=
  ⟨fun h => (by cases h), fun _ => rfl⟩

theorem process (ctx : Ctx) : Statement (.process ctx) :=
  ⟨fun h => (by cases h), fun _ => rfl⟩

theorem reset : Statement .reset := ⟨fun h => (by cases h), fun _ => rfl⟩

end Sys2Proof.Laws.RoundTrip
end

