-- ==== Sys2Proof/Laws/Steps.lean ====
section
/-! SUPPORT. What the two agents and a step of the machine can do, said once. `step_rel` packages the
induction over a step: a relation that every atomic step respects, the step respects. -/

namespace Sys2Proof.Machine

/-! ### The fatal fault: what it leaves -/

@[simp] theorem raiseFatal_consumer (f : FatalFault) (s : State) :
    (raiseFatal f s).consumer = s.consumer := by unfold raiseFatal; split <;> rfl
@[simp] theorem raiseFatal_ctxId (f : FatalFault) (s : State) :
    (raiseFatal f s).ctxId = s.ctxId := by unfold raiseFatal; split <;> rfl
@[simp] theorem raiseFatal_consuming (f : FatalFault) (s : State) :
    (raiseFatal f s).consuming = s.consuming := by unfold raiseFatal; split <;> rfl

/-! ### What a handler puts out, and what it draws -/

@[simp] theorem State.advanceBy_zero (s : State) : s.advanceBy 0 = s := rfl
@[simp] theorem State.advanceBy_succ (n : Nat) (s : State) :
    s.advanceBy (n + 1) = s.advance.advanceBy n := rfl

/-- Calls first, then at most one event (R209); each call uses up one draw, and nothing else of the
PROCESS moves. -/
theorem HandlerStep.outputs {i : Instr} {s t : State} (h : HandlerStep s i t) :
    ∃ (cs : List Call) (ds : List Diag),
      t.outputs = s.outputs ++ cs.map .call ++ ds.map .diag ∧ cs.length ≤ 2 ∧ ds.length ≤ 1 ∧
      t.consumer = (s.advanceBy cs.length).consumer ∧ t.drawn = (s.advanceBy cs.length).drawn := by
  cases h
  case stxMidFrame => exact ⟨[], [.partialFrame s.st], by simp [startFrame, hexReset]⟩
  case etxVerified => exact ⟨[.verify (.ok ())], [], by simp⟩
  case etxVerifyFailed r r' e _ _ _ =>
    exact ⟨[.verify (.err e), .status (statusResult r')], [.verifyFail e (statusResult r')],
      by simp⟩
  case etxAdded => exact ⟨[.add s.frameBytes s.idx0 s.idx1 s.sc (.ok ())], [], by simp⟩
  case etxAddFailed e _ _ =>
    exact ⟨[.add s.frameBytes s.idx0 s.idx1 s.sc (.err e)], [.notifyReject e], by simp⟩
  case etxExecuted cmd _ _ _ =>
    exact ⟨[.parse s.frameBytes (.ok cmd), .execute cmd s.ctxId], [], by simp⟩
  case etxParseFailed e _ _ =>
    exact ⟨[.parse s.frameBytes (.err e)], [.syscallParseFail e], by simp⟩
  case etxHandedOver k _ op _ _ _ _ => exact ⟨[.extDispatch k op s.frameBytes], [], by simp⟩
  case usInitUnknown => exact ⟨[], [.usUnknownType], by simp [abortFrame]⟩
  case killed => exact ⟨[.kill (.ok ())], [], by simp⟩
  case killFailed e _ _ => exact ⟨[.kill (.err e)], [.killReject e], by simp [abortFrame]⟩
  case usApplicationStore => exact ⟨[], [.dupSeparator .applicationStore], by simp [abortFrame]⟩
  case usNotificationBody => exact ⟨[], [.dupSeparator .notificationBody], by simp [abortFrame]⟩
  case typeUnknown d _ _ _ => exact ⟨[], [.unknownType d], by simp [abortFrame]⟩
  case badPair d _ _ _ _ => exact ⟨[], [.invalidHex s.hxC0 d], by simp [abortFrame]⟩
  case pairTaken c _ _ _ _ _ _ => exact ⟨[c], [], by simp⟩
  case pairRejected c g _ _ _ _ _ _ => exact ⟨[c], [g], by simp [abortFrame]⟩
  all_goals exact ⟨[], [], by simp [startFrame, hexReset, raiseFatal_eq]⟩

/-! ### The producer -/

theorem State.halted_of_none {s : State} (h : s.fault = none) : s.halted = false := by
  simp [State.halted, h]

theorem State.halted_of_ne {s : State} (h : s.fault ≠ none) : s.halted = true := by
  simpa [State.halted, Option.isSome_iff_ne_none] using h

theorem beginWrite_eq_next {bytes : List Byte} {s t : State} (h : beginWrite bytes s = .next t) :
    s.producer = .idle ∧
      ((s.fault ≠ none ∧ t = finishWrite .writeHalted s) ∨
        (s.fault = none ∧ bytes = [] ∧ t = finishWrite .writeOk s) ∨
        (s.fault = none ∧ ∃ b rest, bytes = b :: rest ∧
          t = s.setProducer (.test b rest bytes.length 0))) := by
  unfold beginWrite at h
  split at h
  · rename_i hp
    refine ⟨hp, ?_⟩
    by_cases hf : s.fault = none
    · rw [State.halted_of_none hf] at h
      cases bytes with
      | nil => cases h; exact .inr (.inl ⟨hf, rfl, rfl⟩)
      | cons b rest => cases h; exact .inr (.inr ⟨hf, b, rest, rfl, rfl⟩)
    · rw [State.halted_of_ne hf] at h
      cases h; exact .inl ⟨hf, rfl⟩
  · cases h
  · cases h

theorem producerAdvance_idle {s : State} (h : s.producer = .idle) :
    producerAdvance s = .next s := by simp [producerAdvance, h]

theorem producerAdvance_halted {s : State} {b : Byte} {rest : List Byte} {n k : Nat}
    (h : s.producer = .test b rest n k) (hf : s.fault ≠ none) :
    producerAdvance s = .next (finishWrite .writeHalted s) := by
  simp [producerAdvance, h, State.halted_of_ne hf]

theorem producerAdvance_test {s : State} {b : Byte} {rest : List Byte} {n k : Nat}
    (h : s.producer = .test b rest n k) (hf : s.fault = none) :
    producerAdvance s = .next (s.setProducer (.enqueue b rest n k)) := by
  simp [producerAdvance, h, State.halted_of_none hf]

theorem producerAdvance_full {s : State} {b : Byte} {rest : List Byte} {n k : Nat}
    (h : s.producer = .enqueue b rest n k) (hq : s.q.length = s.cfg.qcap) :
    producerAdvance s
      = .next (finishWrite (.writeOverflow n k) (raiseFatal (.queueOverflow n k) s)) := by
  simp [producerAdvance, h, enqueueByte, hq]

theorem producerAdvance_push {s : State} {b : Byte} {rest : List Byte} {n k : Nat}
    (h : s.producer = .enqueue b rest n k) (hq : s.q.length < s.cfg.qcap) :
    producerAdvance s = .next (nextByte rest n (k + 1) (s.setQ (s.q ++ [b]))) := by
  have : s.q.length ≠ s.cfg.qcap := by omega
  simp [producerAdvance, h, enqueueByte, this, qPush, hq]

theorem producerAdvance_eq_next {s t : State} (h : producerAdvance s = .next t) :
    (s.producer = .idle ∧ t = s) ∨
    (∃ b rest n k, s.producer = .test b rest n k ∧
      ((s.fault ≠ none ∧ t = finishWrite .writeHalted s) ∨
        (s.fault = none ∧ t = s.setProducer (.enqueue b rest n k)))) ∨
    (∃ b rest n k, s.producer = .enqueue b rest n k ∧
      ((s.q.length = s.cfg.qcap ∧
          t = finishWrite (.writeOverflow n k) (raiseFatal (.queueOverflow n k) s)) ∨
        (s.q.length < s.cfg.qcap ∧ t = nextByte rest n (k + 1) (s.setQ (s.q ++ [b]))))) := by
  unfold producerAdvance at h
  split at h
  · rename_i hp; cases h; exact .inl ⟨hp, rfl⟩
  · rename_i b rest n k hp
    refine .inr (.inl ⟨b, rest, n, k, hp, ?_⟩)
    by_cases hf : s.fault = none
    · rw [State.halted_of_none hf] at h; cases h; exact .inr ⟨hf, rfl⟩
    · rw [State.halted_of_ne hf] at h; cases h; exact .inl ⟨hf, rfl⟩
  · rename_i b rest n k hp
    refine .inr (.inr ⟨b, rest, n, k, hp, ?_⟩)
    unfold enqueueByte at h
    split at h
    · rename_i hq; cases h; exact .inl ⟨hq, rfl⟩
    · obtain ⟨u, hu, h⟩ := andThen_eq_next.1 h
      obtain ⟨hq, rfl⟩ := qPush_eq_next.1 hu
      cases h; exact .inr ⟨hq, rfl⟩

theorem runProducer_succ (n : Nat) (s : State) :
    runProducer (n + 1) s = andThen (producerAdvance s) (runProducer n) := rfl

theorem runProducer_idle {s : State} (h : s.producer = .idle) (n : Nat) :
    runProducer n s = .next s := by
  induction n with
  | zero => rfl
  | succ n ih => rw [runProducer_succ, producerAdvance_idle h, andThen_next, ih]

/-! ### The consumer -/

theorem beginProcess_eq_next {ctx : Ctx} {s t : State} (h : beginProcess ctx s = .next t) :
    s.consumer = .idle ∧ t = s.setConsumer (.running ctx .test) := by
  unfold beginProcess at h
  split at h
  · rename_i hc; cases h; exact ⟨hc, rfl⟩
  · cases h

theorem consumerAdvance_idle {s : State} (h : s.consumer = .idle) :
    consumerAdvance s = .next s := by simp [consumerAdvance, h]

/-- R206: on a halted engine a PROCESS ends, wherever it is, without a pop. -/
theorem consumerAdvance_halted {s : State} {ctx : Ctx} {ph : Phase}
    (h : s.consumer = .running ctx ph) (hf : s.fault ≠ none) :
    consumerAdvance s = .next (finishProcess .processHalted s) := by
  cases ph <;> simp [consumerAdvance, h, State.halted_of_ne hf]

theorem consumerAdvance_test {s : State} {ctx : Ctx} (h : s.consumer = .running ctx .test)
    (hf : s.fault = none) : consumerAdvance s = .next (s.setConsumer (.running ctx .pop)) := by
  simp [consumerAdvance, h, State.halted_of_none hf]

theorem consumerAdvance_empty {s : State} {ctx : Ctx} (h : s.consumer = .running ctx .pop)
    (hf : s.fault = none) (hq : s.q = []) :
    consumerAdvance s = .next (finishProcess .processOk s) := by
  simp [consumerAdvance, h, State.halted_of_none hf, popAndStep, qPop, hq]

theorem consumerAdvance_pop {s : State} {ctx : Ctx} {b : Byte} {rest : List Byte}
    (h : s.consumer = .running ctx .pop) (hf : s.fault = none) (hq : s.q = b :: rest) :
    consumerAdvance s
      = andThen (byteStep b (s.setQ rest)) (fun u => .next (nextIteration u)) := by
  simp [consumerAdvance, h, State.halted_of_none hf, popAndStep, qPop, hq]

/-- A step of the consumer that goes on: idle, halted, a passed fault test, the last pop, or a
handler. -/
theorem consumerAdvance_eq_next {s t : State} (h : consumerAdvance s = .next t) :
    (s.consumer = .idle ∧ t = s) ∨
    (∃ ctx ph, s.consumer = .running ctx ph ∧ s.fault ≠ none ∧
      t = finishProcess .processHalted s) ∨
    (∃ ctx, s.consumer = .running ctx .test ∧ s.fault = none ∧
      t = s.setConsumer (.running ctx .pop)) ∨
    (∃ ctx, s.consumer = .running ctx .pop ∧ s.fault = none ∧
      ((s.q = [] ∧ t = finishProcess .processOk s) ∨
        (∃ b rest u, s.q = b :: rest ∧ s.pairExists = true ∧
          HandlerStep (s.setQ rest) (decodeByte s.st s.ty b) u ∧ t = nextIteration u))) := by
  cases hc : s.consumer with
  | idle => rw [consumerAdvance_idle hc] at h; cases h; exact .inl ⟨rfl, rfl⟩
  | running ctx ph =>
    by_cases hf : s.fault = none
    case neg =>
      rw [consumerAdvance_halted hc hf] at h; cases h
      exact .inr (.inl ⟨ctx, ph, rfl, hf, rfl⟩)
    cases ph with
    | test =>
      rw [consumerAdvance_test hc hf] at h; cases h
      exact .inr (.inr (.inl ⟨ctx, rfl, hf, rfl⟩))
    | pop =>
      refine .inr (.inr (.inr ⟨ctx, rfl, hf, ?_⟩))
      cases hq : s.q with
      | nil => rw [consumerAdvance_empty hc hf hq] at h; cases h; exact .inl ⟨rfl, rfl⟩
      | cons b rest =>
        rw [consumerAdvance_pop hc hf hq] at h
        obtain ⟨u, hu, h⟩ := andThen_eq_next.1 h
        obtain ⟨hp, hx⟩ := byteStep_eq_next hu
        cases h
        exact .inr ⟨b, rest, u, rfl, hp,
          (handlerStep_of_exec (decodeByte_isHandler _ _ _) hx).2, rfl⟩

theorem runConsumer_succ (n : Nat) (s : State) :
    runConsumer (n + 1) s = andThen (consumerAdvance s) (runConsumer n) := rfl

theorem runConsumer_idle {s : State} (h : s.consumer = .idle) (n : Nat) :
    runConsumer n s = .next s := by
  induction n with
  | zero => rfl
  | succ n ih => rw [runConsumer_succ, consumerAdvance_idle h, andThen_next, ih]

theorem execReset_eq_next {s t : State} (h : execReset s = .next t) :
    s.producer = .idle ∧ s.consumer = .idle ∧ t = resetBlock s := by
  unfold execReset at h
  split at h
  · rename_i hp hc; cases h; exact ⟨hp, hc, rfl⟩
  all_goals cases h

/-! ### The pair (`st`, `ty`) -/

/-- A pair that exists has a type that the configuration has (R23, R31). -/
theorem State.known_of_pairExists {s : State} (h : s.pairExists = true) :
    s.ty.known s.cfg.extTypes.length = true := by
  unfold State.pairExists pairOk at h
  exact (Bool.and_eq_true_iff.1 h).1

/-- In Wait and Init every type of the configuration makes a pair that exists (R31). -/
theorem State.pairExists_of_known {s : State} (hst : s.st = .wait ∨ s.st = .init)
    (h : s.ty.known s.cfg.extTypes.length = true) : s.pairExists = true := by
  unfold State.pairExists pairOk
  rcases hst with hst | hst <;> simp [hst, h]

/-- A table that meets R7 classifies every byte as a type that exists. -/
theorem classify_known {c : Config} (h : c.wf = true) (b : Byte) :
    (classify c b).known c.extTypes.length = true := by
  have hall := (Bool.and_eq_true_iff.1 h).2
  unfold classify
  generalize c.typeTable = l at hall
  induction l with
  | nil => rfl
  | cons e l ih =>
    rw [List.all_cons, Bool.and_eq_true_iff] at hall
    unfold typeLookup
    split
    · exact hall.1
    · exact ih hall.2

/-- With parameters that meet R7 a handler leads from a pair that exists to one that exists (R31). -/
theorem HandlerStep.pairExists {i : Instr} {s t : State} (h : HandlerStep s i t)
    (hw : s.cfg.wf = true) (hp : s.pairExists = true) : t.pairExists = true := by
  have hk := State.known_of_pairExists hp
  have hc := classify_known hw
  cases h
  case payloadOverflow => simpa [State.pairExists, raiseFatal_eq] using hp
  case sectionOverflow => simpa [State.pairExists, raiseFatal_eq] using hp
  case typeKnown d h hd ht => exact State.pairExists_of_known (.inr h) (hc d)
  case typeUnknown => exact State.pairExists_of_known (.inl rfl) rfl
  case stxIdle => exact State.pairExists_of_known (.inr rfl) rfl
  case stxMidFrame => exact State.pairExists_of_known (.inr rfl) rfl
  case killed ht r ha hr =>
    simp [State.pairExists, pairOk, MsgType.known, ht]
  case usInitNotification ht => simp [State.pairExists, pairOk, MsgType.known, ht]
  case usInitSyscall ht => simp [State.pairExists, pairOk, MsgType.known, ht]
  case usInitExt k ht =>
    rw [ht] at hk
    simpa [State.pairExists, pairOk, ht] using hk
  case usPayload h => simpa [State.pairExists, h] using hp
  case usApplicationChecksum h => unfold State.pairExists at hp ⊢; rw [h] at hp; exact hp
  case usNotificationSource h => unfold State.pairExists at hp ⊢; rw [h] at hp; exact hp
  case usNotificationTitle h => unfold State.pairExists at hp ⊢; rw [h] at hp; exact hp
  all_goals first
    | exact hp
    | exact State.pairExists_of_known (.inl rfl) hk

/-! ### A step, by its next input -/

theorem step_of_input {s : State} {x : Input} {rest : List Input} (hp : s.pairExists = true)
    (hi : s.inputs = x :: rest) : step s = takeInput x (s.setInputs rest) := by
  simp only [step, hp, hi, if_true]

theorem step_of_no_input {s : State} (hp : s.pairExists = true) (hi : s.inputs = []) :
    step s = goOn s := by
  simp only [step, hp, hi, if_true]

theorem step_of_excluded {s : State} (hp : s.pairExists = false) :
    step s = .refused .unreachablePair := by
  simp only [step, hp, Bool.false_eq_true, if_false]

/-! ### Runs of the machine -/

theorem core_run_zero (s : State) : Sys2Proof.core.run 0 s = .next s := rfl

/-- A run of the machine is a step and the rest of the run. -/
theorem core_run_succ (n : Nat) (s : State) :
    Sys2Proof.core.run (n + 1) s = andThen (step s) (Sys2Proof.core.run n) := by
  have unfoldRun : ∀ (m : Host.Core) (s : m.State), m.run (n + 1) s =
      (match m.step s with
        | .next s' => m.run n s'
        | .fault r => .fault r
        | .refused r => .refused r) := fun _ _ => rfl
  refine (unfoldRun Sys2Proof.core s).trans ?_
  have h : Sys2Proof.core.step s = step s := rfl
  rw [h]
  cases step s <;> rfl

/-! ### The step -/

/-- What every step of the producer respects, a run of them respects. -/
theorem runProducer_rel {R : State → State → Prop} (refl : ∀ s, R s s)
    (trans : ∀ {s t u}, R s t → R t u → R s u)
    (pa : ∀ {s t}, producerAdvance s = .next t → R s t) {n : Nat} {s t : State}
    (h : runProducer n s = .next t) : R s t := by
  induction n generalizing s with
  | zero => cases h; exact refl _
  | succ n ih =>
    obtain ⟨u, hu, h⟩ := andThen_eq_next.1 h
    exact trans (pa hu) (ih h)

/-- What every step of the consumer respects, a run of them respects. -/
theorem runConsumer_rel {R : State → State → Prop} (refl : ∀ s, R s s)
    (trans : ∀ {s t u}, R s t → R t u → R s u)
    (ca : ∀ {s t}, consumerAdvance s = .next t → R s t) {n : Nat} {s t : State}
    (h : runConsumer n s = .next t) : R s t := by
  induction n generalizing s with
  | zero => cases h; exact refl _
  | succ n ih =>
    obtain ⟨u, hu, h⟩ := andThen_eq_next.1 h
    exact trans (ca hu) (ih h)

/-- A reflexive and transitive relation that every atomic step respects holds between a state and
the one a step gives. What the inputs and the count of draws are does not matter to it; the RESET
case is asked for only where the next input is RESET. -/
theorem step_rel {R : State → State → Prop} (refl : ∀ s, R s s)
    (trans : ∀ {s t u}, R s t → R t u → R s u)
    (inputs : ∀ s v, R s (s.setInputs v)) (drawn : ∀ s v, R s (s.setDrawn v))
    (bw : ∀ {bytes s t}, beginWrite bytes s = .next t → R s t)
    (bp : ∀ {ctx s t}, beginProcess ctx s = .next t → R s t)
    (pa : ∀ {s t}, producerAdvance s = .next t → R s t)
    (ca : ∀ {s t}, consumerAdvance s = .next t → R s t) {s t : State}
    (rs : ∀ rest, s.inputs = .reset :: rest → ∀ t, execReset (s.setInputs rest) = .next t →
      R (s.setInputs rest) t)
    (h : step s = .next t) : R s t := by
  unfold step at h
  split at h
  · split at h
    · rename_i x rest hx
      refine trans (inputs s rest) ?_
      cases x with
      | write bytes =>
        obtain ⟨u, hu, h⟩ := andThen_eq_next.1 h
        exact trans (bw hu) (runProducer_rel refl trans pa h)
      | process ctx =>
        obtain ⟨u, hu, h⟩ := andThen_eq_next.1 h
        exact trans (bp hu) (runConsumer_rel refl trans ca h)
      | reset => exact rs rest hx t h
      | writeBegin bytes => exact bw h
      | processBegin ctx => exact bp h
      | producer => exact pa h
      | consumer => exact ca h
    · unfold goOn at h
      split at h
      · split at h
        · split at h
          · exact trans (drawn s _) (pa h)
          · exact trans (drawn s _) (ca h)
        · exact pa h
      · exact ca h
  · cases h

end Sys2Proof.Machine
end

