-- ==== Sys2Proof/Tests/Slice0.lean ====
section
/-! SUPPORT. The model's own tests: the well-formedness smoke tests, decoding from words written out
by hand, one step of each operation with the results of spec/95_test_vectors.md or of the rule's own
example, and the witnesses that the hypotheses of the obligations can be met. -/

namespace Sys2Proof.Tests

open Sys2Proof.Machine

/-! ### Small states -/

/-- The canonical table with two extension types, the first of which has a call. -/
def table : List (Byte × MsgType) :=
  [(0x41#8, .application), (0x4E#8, .notification), (0x53#8, .syscall), (0x57#8, .ext 0),
    (0x44#8, .ext 1)]

/-- Four bytes of queue, two of Frame Buffer. -/
def small : Config := ⟨4, 2, table, ["Weather", "Date"], [(0, "weather.show")]⟩

/-- As the vectors of spec/95_test_vectors.md ask for: `FBCAP` ≥ 64. -/
def large : Config := ⟨64, 64, table, ["Weather", "Date"], [(0, "weather.show")]⟩

/-- A configuration whose extension type has a call. -/
def complete : Config := ⟨4, 2, [(0x57#8, .ext 0)], ["Weather"], [(0, "weather.show")]⟩

/-- After reset, between transactions. -/
def idle (c : Config) : State := { State.reset with cfg := c }

/-- In a PROCESS at its pop, with the given frame state, type and answers. -/
def mid (st : FrameState) (ty : MsgType) (answers : List Answer) : State :=
  { idle small with st := st, ty := ty, consumer := .running ⟨7, answers⟩ .pop }

/-- The same with the Frame Buffer full of "hi". -/
def full (st : FrameState) (ty : MsgType) (answers : List Answer) : State :=
  { mid st ty answers with
    wc := 2, fb := [(0, 0x68#8), (1, 0x69#8)], sc := if ty = .notification then 2 else 0 }

/-- The same with one character of a pair pending. -/
def pending (st : FrameState) (c0 : Byte) (answers : List Answer) : State :=
  { mid st .application answers with hxFill := true, hxC0 := c0 }

/-- `Ok` with value 9. -/
def yes : Answer := .respond ⟨false, 9⟩

/-- `Err` with value 5. -/
def no : Answer := .respond ⟨true, 5⟩

def stateOf (o : Out) : Option State :=
  match o with
  | .next s => some s
  | .fault _ => none
  | .refused _ => none

def refusalOf (o : Out) : Option Refusal :=
  match o with
  | .next _ => none
  | .fault _ => none
  | .refused r => some r

def faultOf (o : Out) : Option Fault :=
  match o with
  | .next _ => none
  | .fault f => some f
  | .refused _ => none

/-- Feed a stream to one PROCESS. -/
def fed (bytes : List Byte) (answers : List Answer) : Option State :=
  stateOf (exec (.process ⟨7, answers⟩) { idle large with q := bytes })

/-- What a vector of spec/95_test_vectors.md states of a stream: calls, events, `st`, `ty`, `wc`. -/
structure Seen where
  calls : List Call
  diags : List Diag
  st : FrameState
  ty : MsgType
  wc : Nat
  deriving DecidableEq, Repr

def seen (s : State) : Seen := ⟨s.calls, s.diags, s.st, s.ty, s.wc⟩

/-! ### Well-formedness refuses the ill-formed -/

theorem test_wf_dataWait : (Instr.dataWait 0x02#8).wf = false := by decide
theorem test_wf_dataInit : (Instr.dataInit 0x03#8).wf = false := by decide
theorem test_wf_dataPayload : (Instr.dataPayload 0x1F#8).wf = false := by decide
theorem test_wf_dataChecksum : (Instr.dataApplicationChecksum 0x02#8).wf = false := by decide
theorem test_wf_dataStore : (Instr.dataApplicationStore 0x03#8).wf = false := by decide
theorem test_wf_dataSource : (Instr.dataNotificationSource 0x1F#8).wf = false := by decide
theorem test_wf_dataTitle : (Instr.dataNotificationTitle 0x02#8).wf = false := by decide
theorem test_wf_dataBody : (Instr.dataNotificationBody 0x03#8).wf = false := by decide
theorem test_wf_dataAccepted : (Instr.dataPayload 0x1E#8).wf = true := by decide
theorem test_config_noQueue : ({ small with qcap := 0 } : Config).wf = false := by decide
theorem test_config_noFrameBuffer : ({ small with fbcap := 0 } : Config).wf = false := by decide
theorem test_config_strayType : ({ small with extTypes := [] } : Config).wf = false := by decide

/-! ### Decoding: each row from its word, written out (30_encoding.md R71, R83) -/

theorem test_decode_delimiters :
    decodeByte .init .unknown 0b00000010#8 = .stx ∧
    decodeByte .wait .application 0b00000011#8 = .etxWait ∧
    decodeByte .init .unknown 0b00000011#8 = .etx := by decide

theorem test_decode_us :
    decodeByte .wait .syscall 0b00011111#8 = .usWait ∧
    decodeByte .init .unknown 0b00011111#8 = .usInitUnknown ∧
    decodeByte .init .application 0b00011111#8 = .usInitApplication ∧
    decodeByte .init .notification 0b00011111#8 = .usInitNotification ∧
    decodeByte .init .syscall 0b00011111#8 = .usInitSyscall ∧
    decodeByte .init (.ext 3) 0b00011111#8 = .usInitExt ∧
    decodeByte .payload .syscall 0b00011111#8 = .usPayload ∧
    decodeByte .applicationChecksum .application 0b00011111#8 = .usApplicationChecksum ∧
    decodeByte .applicationStore .application 0b00011111#8 = .usApplicationStore ∧
    decodeByte .notificationSource .notification 0b00011111#8 = .usNotificationSource ∧
    decodeByte .notificationTitle .notification 0b00011111#8 = .usNotificationTitle ∧
    decodeByte .notificationBody .notification 0b00011111#8 = .usNotificationBody := by decide

theorem test_decode_data :
    decodeByte .wait .unknown 0b00000000#8 = .dataWait 0x00#8 ∧
    decodeByte .init .unknown 0b01001110#8 = .dataInit 0x4E#8 ∧
    decodeByte .payload .syscall 0b10000010#8 = .dataPayload 0x82#8 ∧
    decodeByte .applicationChecksum .application 0b00110100#8 = .dataApplicationChecksum 0x34#8 ∧
    decodeByte .applicationStore .application 0b01100110#8 = .dataApplicationStore 0x66#8 ∧
    decodeByte .notificationSource .notification 0b00000001#8 = .dataNotificationSource 0x01#8 ∧
    decodeByte .notificationTitle .notification 0b00100000#8 = .dataNotificationTitle 0x20#8 ∧
    decodeByte .notificationBody .notification 0b11111111#8 = .dataNotificationBody 0xFF#8 := by
  decide

theorem test_decode_rejects :
    (match decode 0 .wait .unknown [] with
      | .error e => some e
      | .ok _ => none) = some .noByte ∧
    (match decode 2 .payload .unknown [0x41#8] with
      | .error e => some e
      | .ok _ => none) = some .unreachablePair ∧
    (match decode 2 .payload (.ext 2) [0x41#8] with
      | .error e => some e
      | .ok _ => none) = some .unreachablePair := by decide

/-- R158 with R23: a launch state of an extension type that the configuration lacks is refused. -/
theorem test_launchOfStrayExtension :
    refusalOf (step (mid .payload (.ext 2) [])) = some .unreachablePair ∧
    refusalOf (step (mid .wait (.ext 2) [])) = some .unreachablePair ∧
    (∃ t, step (mid .payload (.ext 1) []) = .next t) ∧
    pairOk Config.canonical.extTypes.length .payload (.ext 0) = false := ⟨rfl, rfl, ⟨_, rfl⟩, rfl⟩

theorem test_tableWords :
    decodeTableWord 8 0x02 = some .stx ∧ decodeTableWord 8 0x03 = some .etxWait ∧
    decodeTableWord 8 0x1F = some .usWait ∧ decodeTableWord 8 0x41 = some (.dataWait 0x41#8) ∧
    decodeTableWord 8 0x100 = none ∧ decodeTableWord 16 0x02 = none := by decide

/-! ### A byte placed after reset is the next step's -/

theorem test_firstByte_stx :
    ∃ t, step (State.reset.withFetchWord 8 0x02) = .next t ∧ t.st = .init ∧ t.q = [] :=
  ⟨_, rfl, rfl, rfl⟩

theorem test_firstByte_data :
    ∃ t, step (State.reset.withFetchWord 8 0x41) = .next t ∧ t.st = .wait ∧ t.q = [] ∧
      t.calls = [] ∧ t.diags = [] :=
  ⟨_, rfl, rfl, rfl, rfl, rfl⟩

/-! ### Frame start and frame end -/

/-- 95 F3. -/
theorem test_stx_midFrame :
    (stateOf (exec .stx (full .payload .syscall []))).map (fun t => (seen t, t.hxFill)) =
      some (⟨[], [.partialFrame .payload], .init, .unknown, 0⟩, false) := by decide

/-- 95 F1. -/
theorem test_stx_wait : (stateOf (exec .stx (mid .wait .syscall []))).map seen =
    some ⟨[], [], .init, .unknown, 0⟩ := by decide

/-- 95 F6. -/
theorem test_etxWait : stateOf (exec .etxWait (mid .wait .syscall [])) =
    some (mid .wait .syscall []) := by decide

/-- 95 F8. -/
theorem test_etx_unknown : (stateOf (exec .etx (mid .init .unknown []))).map seen =
    some ⟨[], [], .wait, .unknown, 0⟩ := by decide

/-- 43_dispatch.md R182: verify, then status, then VERIFY_FAIL. -/
theorem test_etx_verifyFails :
    (stateOf (exec .etx (mid .applicationStore .application [no, yes]))).map seen =
      some ⟨[.verify (.err ⟨5⟩), .status ⟨9⟩], [.verifyFail ⟨5⟩ ⟨9⟩], .wait, .application, 0⟩ := by
  decide

/-- 60_exceptions.md R209: the same step's outputs in their one order. -/
theorem test_etx_outputOrder :
    (stateOf (exec .etx (mid .applicationStore .application [no, yes]))).map (·.outputs) =
      some [.call (.verify (.err ⟨5⟩)), .call (.status ⟨9⟩), .diag (.verifyFail ⟨5⟩ ⟨9⟩)] := by
  decide

/-- 43_dispatch.md R183: the third index, the bytes, a rejection. -/
theorem test_etx_addRejected :
    (stateOf (exec .etx (full .notificationBody .notification [no]))).map
        (fun t => (seen t, t.idx2)) =
      some (⟨[.add [0x68#8, 0x69#8] 0 0 2 (.err ⟨5⟩)], [.notifyReject ⟨5⟩], .wait,
        .notification, 2⟩, 2) := by decide

/-- 43_dispatch.md R184: a failed parse is not executed. -/
theorem test_etx_parseFails :
    (stateOf (exec .etx (full .payload .syscall [no]))).map seen =
      some ⟨[.parse [0x68#8, 0x69#8] (.err ⟨5⟩)], [.syscallParseFail ⟨5⟩], .wait, .syscall, 2⟩ := by
  decide

/-- 43_dispatch.md R185. -/
theorem test_etx_extension :
    (stateOf (exec .etx (full .payload (.ext 0) [yes]))).map seen =
      some ⟨[.extDispatch 0 "weather.show" [0x68#8, 0x69#8]], [], .wait, .ext 0, 2⟩ ∧
    refusalOf (exec .etx (full .payload (.ext 1) [yes])) = some (.noExtDispatch 1) := by decide

/-! ### The field separator -/

/-- 42_frame_fsm.md R134, R139: nothing changes. -/
theorem test_us_ignored :
    stateOf (exec .usWait (mid .wait .syscall [])) = some (mid .wait .syscall []) ∧
    stateOf (exec .usPayload (full .payload .syscall [])) = some (full .payload .syscall []) := by
  decide

/-- 95 F13. -/
theorem test_usInitUnknown : (stateOf (exec .usInitUnknown (mid .init .unknown []))).map seen =
    some ⟨[], [.usUnknownType], .wait, .unknown, 0⟩ := by decide

/-- 95 F14 and F15. -/
theorem test_usInitApplication :
    (stateOf (exec .usInitApplication (mid .init .application [yes]))).map seen =
      some ⟨[.kill (.ok ())], [], .applicationChecksum, .application, 0⟩ ∧
    (stateOf (exec .usInitApplication (mid .init .application [no]))).map seen =
      some ⟨[.kill (.err ⟨5⟩)], [.killReject ⟨5⟩], .wait, .application, 0⟩ := by decide

/-- 95 F16 and 42_frame_fsm.md R138, R140. -/
theorem test_us_nextField :
    (stateOf (exec .usInitNotification (mid .init .notification []))).map (·.st) =
      some .notificationSource ∧
    (stateOf (exec .usInitSyscall (mid .init .syscall []))).map (·.st) = some .payload ∧
    (stateOf (exec .usInitExt (mid .init (.ext 1) []))).map (·.st) = some .payload ∧
    (stateOf (exec .usApplicationChecksum (pending .applicationChecksum 0x34#8 []))).map
        (fun t => (t.st, t.hxFill, t.hxC0)) =
      some (.applicationStore, true, 0x34#8) := by decide

/-- 42_frame_fsm.md R141, R144. -/
theorem test_us_duplicate :
    (stateOf (exec .usApplicationStore (mid .applicationStore .application []))).map seen =
      some ⟨[], [.dupSeparator .applicationStore], .wait, .application, 0⟩ ∧
    (stateOf (exec .usNotificationBody (mid .notificationBody .notification []))).map seen =
      some ⟨[], [.dupSeparator .notificationBody], .wait, .notification, 0⟩ := by decide

/-- 42_frame_fsm.md R142, R143. -/
theorem test_us_indices :
    (stateOf (exec .usNotificationSource (full .notificationSource .notification []))).map
        (fun t => (t.st, t.idx0, t.idx1, t.idx2)) = some (.notificationTitle, 2, 0, 0) ∧
    (stateOf (exec .usNotificationTitle (full .notificationTitle .notification []))).map
        (fun t => (t.st, t.idx0, t.idx1, t.idx2)) = some (.notificationBody, 0, 2, 0) := by decide

/-! ### Data bytes -/

/-- 42_frame_fsm.md R145. -/
theorem test_dataWait : stateOf (exec (.dataWait 0x41#8) (mid .wait .syscall [])) =
    some (mid .wait .syscall []) := by decide

/-- 42_frame_fsm.md R146: 'N' after 'S' classifies again; 'Z' drops the frame. -/
theorem test_dataInit :
    (stateOf (exec (.dataInit 0x4E#8) (mid .init .syscall []))).map seen =
      some ⟨[], [], .init, .notification, 0⟩ ∧
    (stateOf (exec (.dataInit 0x5A#8) (mid .init .unknown []))).map seen =
      some ⟨[], [.unknownType 0x5A#8], .wait, .unknown, 0⟩ := by decide

/-- 42_frame_fsm.md R147, R148: stored below capacity, fatal at capacity. -/
theorem test_dataPayload :
    (stateOf (exec (.dataPayload 0x00#8) (mid .payload .syscall []))).map
        (fun t => (t.fb, t.wc, t.sc, t.fault)) = some ([(0, 0x00#8)], 1, 0, none) ∧
    (stateOf (exec (.dataPayload 0x78#8) (full .payload .syscall []))).map
        (fun t => (t.fb, t.wc, t.st, t.fault)) =
      some ([(0, 0x68#8), (1, 0x69#8)], 2, .payload, some (.frameBufferOverflow 0x78#8)) := by
  decide

/-- 42_frame_fsm.md R149 to R151: the section cursor moves with the byte, and not with a fault. -/
theorem test_dataNotification :
    (stateOf (exec (.dataNotificationSource 0x61#8)
        (mid .notificationSource .notification []))).map (fun t => (t.fb, t.wc, t.sc)) =
      some ([(0, 0x61#8)], 1, 1) ∧
    (stateOf (exec (.dataNotificationTitle 0x62#8)
        (mid .notificationTitle .notification []))).map (fun t => (t.fb, t.wc, t.sc)) =
      some ([(0, 0x62#8)], 1, 1) ∧
    (stateOf (exec (.dataNotificationBody 0x63#8)
        (full .notificationBody .notification []))).map (fun t => (t.wc, t.sc, t.fault)) =
      some (2, 2, some (.frameBufferOverflow 0x63#8)) := by decide

/-- 42_frame_fsm.md R152: "41", "4G" (95 L1.5), and a rejection. -/
theorem test_dataChecksum :
    (stateOf (exec (.dataApplicationChecksum 0x34#8)
        (mid .applicationChecksum .application []))).map (fun t => (seen t, t.hxFill, t.hxC0)) =
      some (⟨[], [], .applicationChecksum, .application, 0⟩, true, 0x34#8) ∧
    (stateOf (exec (.dataApplicationChecksum 0x31#8)
        (pending .applicationChecksum 0x34#8 [yes]))).map (fun t => (seen t, t.hxFill)) =
      some (⟨[.writeChecksumByte 0x41#8 (.ok ())], [], .applicationChecksum, .application, 0⟩,
        false) ∧
    (stateOf (exec (.dataApplicationChecksum 0x47#8)
        (pending .applicationChecksum 0x34#8 [yes]))).map (fun t => (seen t, t.hxFill)) =
      some (⟨[], [.invalidHex 0x34#8 0x47#8], .wait, .application, 0⟩, false) ∧
    (stateOf (exec (.dataApplicationChecksum 0x31#8)
        (pending .applicationChecksum 0x34#8 [no]))).map seen =
      some ⟨[.writeChecksumByte 0x41#8 (.err ⟨5⟩)], [.checksumReject 0x41#8 ⟨5⟩], .wait,
        .application, 0⟩ := by decide

/-- 42_frame_fsm.md R153: "fF" is 0xFF (95 L2.3), and a rejection. -/
theorem test_dataStore :
    (stateOf (exec (.dataApplicationStore 0x46#8)
        (pending .applicationStore 0x66#8 [yes]))).map seen =
      some ⟨[.writeRamByte 0xFF#8 (.ok ())], [], .applicationStore, .application, 0⟩ ∧
    (stateOf (exec (.dataApplicationStore 0x41#8)
        (pending .applicationStore 0x30#8 [no]))).map seen =
      some ⟨[.writeRamByte 0x0A#8 (.err ⟨5⟩)], [.ramReject 0x0A#8 ⟨5⟩], .wait, .application, 0⟩ := by
  decide

/-! ### Ports -/

/-- 95 Q2 and Q3, `QCAP` = 4. -/
theorem test_write :
    (stateOf (exec (.write [0x41#8, 0x42#8, 0x43#8]) (idle small))).map
        (fun t => (t.q, t.results)) = some ([0x41#8, 0x42#8, 0x43#8], [.writeOk]) ∧
    (stateOf (exec (.write [0x44#8, 0x45#8])
        { idle small with q := [0x41#8, 0x42#8, 0x43#8] })).map
        (fun t => (t.q, t.fault, t.results)) =
      some ([0x41#8, 0x42#8, 0x43#8, 0x44#8], some (.queueOverflow 2 1), [.writeOverflow 2 1]) := by
  decide

/-- 40_queue_ops.md R94's example. -/
theorem test_process_example :
    (stateOf (exec (.process ⟨7, [yes, yes]⟩)
        { idle large with q := [0x02#8, 0x53#8, 0x1F#8, 0x58#8, 0x03#8] })).map
        (fun t => (seen t, t.q, t.results)) =
      some (⟨[.parse [0x58#8] (.ok ⟨9⟩), .execute ⟨9⟩ 7], [], .wait, .syscall, 1⟩, [],
        [.processOk]) := by decide

/-- 95 Q5: while halted nothing is popped. -/
theorem test_process_halted :
    (stateOf (exec (.process ⟨7, []⟩)
        { idle small with q := [0x02#8], fault := some (.queueOverflow 2 1) })).map
        (fun t => (t.q, t.st, t.results)) = some ([0x02#8], .wait, [.processHalted]) := by decide

/-- 60_exceptions.md R206: an overflow that falls between a PROCESS's fault test and its pop halts
it: nothing is popped, called or emitted. -/
theorem test_process_haltedAtPop :
    (stateOf (step { mid .payload .syscall [] with
        q := [0x02#8], fault := some (.queueOverflow 2 1), inputs := [.consumer] })).map
        (fun t => (t.q, t.st, t.outputs, t.consumer, t.results)) =
      some ([0x02#8], .payload, [], .idle, [.processHalted]) := by decide

/-- 95 Q6. -/
theorem test_reset :
    ∃ t, exec .reset { full .payload .syscall [] with
        consumer := .idle, q := [0x41#8], fault := some (.queueOverflow 3 2) } = .next t ∧
      t.q = [] ∧ t.st = .wait ∧ t.ty = .unknown ∧ t.wc = 0 ∧ t.fault = none :=
  ⟨_, rfl, rfl, rfl, rfl, rfl, rfl⟩

/-! ### Whole frames: the source's examples (95 L1) -/

/-- L1.2. -/
theorem test_L1_2 :
    (fed [0x02#8, 0x53#8, 0x1F#8, 0x54#8, 0x30#8, 0x30#8, 0x3A#8, 0x30#8, 0x30#8, 0x3A#8, 0x30#8,
        0x30#8, 0x03#8] [yes, yes]).map seen =
      some ⟨[.parse [0x54#8, 0x30#8, 0x30#8, 0x3A#8, 0x30#8, 0x30#8, 0x3A#8, 0x30#8, 0x30#8]
        (.ok ⟨9⟩), .execute ⟨9⟩ 7], [], .wait, .syscall, 9⟩ := by rfl

/-- L1.3. -/
theorem test_L1_3 :
    (fed [0x02#8, 0x4E#8, 0x1F#8, 0x73#8, 0x72#8, 0x63#8, 0x1F#8, 0x74#8, 0x69#8, 0x74#8, 0x6C#8,
        0x65#8, 0x1F#8, 0x62#8, 0x6F#8, 0x64#8, 0x79#8, 0x03#8] [yes]).map seen =
      some ⟨[.add [0x73#8, 0x72#8, 0x63#8, 0x74#8, 0x69#8, 0x74#8, 0x6C#8, 0x65#8, 0x62#8, 0x6F#8,
        0x64#8, 0x79#8] 3 8 12 (.ok ())], [], .wait, .notification, 12⟩ := by rfl

/-- L1.4. -/
theorem test_L1_4 :
    (fed [0x02#8, 0x41#8, 0x1F#8, 0x34#8, 0x31#8, 0x41#8, 0x32#8, 0x1F#8, 0x30#8, 0x41#8, 0x03#8]
        [yes, yes, yes, yes, yes]).map seen =
      some ⟨[.kill (.ok ()), .writeChecksumByte 0x41#8 (.ok ()),
        .writeChecksumByte 0xA2#8 (.ok ()), .writeRamByte 0x0A#8 (.ok ()), .verify (.ok ())], [],
        .wait, .application, 0⟩ := by rfl

/-- L1.5. -/
theorem test_L1_5 :
    (fed [0x02#8, 0x41#8, 0x1F#8, 0x34#8, 0x47#8, 0x03#8] [yes]).map seen =
      some ⟨[.kill (.ok ())], [.invalidHex 0x34#8 0x47#8], .wait, .application, 0⟩ := by rfl

/-- L1.6. -/
theorem test_L1_6 :
    (fed [0x02#8, 0x53#8, 0x1F#8, 0x41#8, 0x42#8, 0x02#8, 0x4E#8, 0x1F#8, 0x78#8, 0x03#8]
        [yes]).map seen =
      some ⟨[.add [0x78#8] 0 0 1 (.ok ())], [.partialFrame .payload], .wait, .notification, 1⟩ := by
  rfl

/-- L1.7. -/
theorem test_L1_7 :
    (fed [0x02#8, 0x5A#8, 0x1F#8, 0x61#8, 0x03#8] []).map seen =
      some ⟨[], [.unknownType 0x5A#8], .wait, .unknown, 0⟩ := by rfl

/-! ### Witnesses: the hypotheses of each obligation can be met together -/

theorem witness_DecodeOfEncode :
    (Instr.dataPayload 0xFF#8).isHandler = true ∧ (Instr.dataPayload 0xFF#8).wf = true ∧
    pairOk 1 .payload (.ext 0) = true ∧ (Instr.dataPayload 0xFF#8).guard .payload (.ext 0) = true := by
  decide

theorem witness_EveryByteSelects :
    pairOk 0 .notificationBody .notification = true ∧ pairOk 2 .payload .unknown = false ∧
    pairOk 2 .payload (.ext 1) = true ∧ pairOk 2 .payload (.ext 2) = false := by decide

theorem witness_Stx :
    (mid .wait .syscall []).selects .stx = true ∧
    (full .payload .syscall []).selects .stx = true := by decide

theorem witness_WaitDiscards :
    (mid .wait .notification []).selects .etxWait = true ∧
    (mid .wait .application []).selects .usWait = true ∧
    (mid .wait .unknown []).selects (.dataWait 0xFF#8) = true := by decide

theorem witness_EtxOfUnknown : (mid .init .unknown []).selects .etx = true := by decide

theorem witness_EtxVerifies :
    (mid .init .application [yes]).selects .etx = true ∧
    (mid .init .application [yes]).answer = some ⟨false, 9⟩ ∧
    (mid .applicationStore .application [no, yes]).selects .etx = true ∧
    (mid .applicationStore .application [no, yes]).answer = some ⟨true, 5⟩ ∧
    (mid .applicationStore .application [no, yes]).advance.answer = some ⟨false, 9⟩ :=
  ⟨rfl, rfl, rfl, rfl, rfl⟩

theorem witness_EtxAdds :
    (full .notificationBody .notification [no]).selects .etx = true ∧
    (full .notificationBody .notification [no]).wc = small.fbcap ∧
    (full .notificationBody .notification [no]).answer = some ⟨true, 5⟩ := ⟨rfl, rfl, rfl⟩

theorem witness_EtxParses :
    (full .payload .syscall [yes, yes]).selects .etx = true ∧
    (full .payload .syscall [yes, yes]).wc = small.fbcap ∧
    (full .payload .syscall [yes, yes]).answer = some ⟨false, 9⟩ ∧
    (full .payload .syscall [yes, yes]).advance.answer = some ⟨false, 9⟩ ∧
    (mid .init .syscall [no]).selects .etx = true ∧
    (mid .init .syscall [no]).answer = some ⟨true, 5⟩ := ⟨rfl, rfl, rfl, rfl, rfl, rfl⟩

theorem witness_EtxHandsOver :
    (full .payload (.ext 0) [yes]).selects .etx = true ∧
    extTarget small.extDispatch 0 = some "weather.show" ∧
    (full .payload (.ext 0) [yes]).answer = some ⟨false, 9⟩ ∧
    (mid .init (.ext 1) []).selects .etx = true ∧ extTarget small.extDispatch 1 = none :=
  ⟨rfl, rfl, rfl, rfl, rfl⟩

theorem witness_EtxWritesOnly : ∃ t, exec .etx (full .notificationBody .notification [yes]) = .next t :=
  ⟨_, rfl⟩

theorem witness_ApplicationSeparator :
    (mid .init .application [yes]).selects .usInitApplication = true ∧
    (mid .init .application [yes]).answer = some ⟨false, 9⟩ ∧
    (mid .init .application [no]).answer = some ⟨true, 5⟩ := ⟨rfl, rfl, rfl⟩

theorem witness_SeparatorMoves :
    (mid .init .notification []).selects .usInitNotification = true ∧
    (mid .init .syscall []).selects .usInitSyscall = true ∧
    (mid .init (.ext 1) []).selects .usInitExt = true ∧
    (full .payload (.ext 0) []).selects .usPayload = true ∧
    (pending .applicationChecksum 0x34#8 []).selects .usApplicationChecksum = true := by decide

theorem witness_MisplacedSeparator :
    (mid .init .unknown []).selects .usInitUnknown = true ∧
    (mid .applicationStore .application []).selects .usApplicationStore = true ∧
    (mid .notificationBody .notification []).selects .usNotificationBody = true := by decide

theorem witness_SeparatorRecords :
    (mid .notificationSource .notification []).selects .usNotificationSource = true ∧
    (full .notificationTitle .notification []).selects .usNotificationTitle = true := by decide

theorem witness_DataByteInInit :
    (mid .init .syscall []).selects (.dataInit 0x4E#8) = true ∧
    classify small 0x4E#8 ≠ .unknown ∧
    (mid .init .unknown []).selects (.dataInit 0x00#8) = true ∧
    classify small 0x00#8 = .unknown := by decide

theorem witness_PayloadByte :
    (mid .payload .syscall []).selects (.dataPayload 0x00#8) = true ∧
    (mid .payload .syscall []).wc < small.fbcap ∧
    (full .payload .syscall []).selects (.dataPayload 0xFF#8) = true ∧
    (full .payload .syscall []).wc = small.fbcap := by decide

theorem witness_NotificationByte :
    (mid .notificationSource .notification []).selects (.dataNotificationSource 0x00#8) = true ∧
    (mid .notificationTitle .notification []).selects (.dataNotificationTitle 0x01#8) = true ∧
    (full .notificationBody .notification []).selects (.dataNotificationBody 0xFF#8) = true ∧
    (full .notificationBody .notification []).wc = small.fbcap := by decide

theorem witness_ChecksumCharacter :
    (mid .applicationChecksum .application []).selects (.dataApplicationChecksum 0x34#8) = true ∧
    (pending .applicationChecksum 0x34#8 [no]).selects (.dataApplicationChecksum 0x47#8) = true ∧
    hexPair 0x34#8 0x47#8 = none ∧
    (pending .applicationChecksum 0x34#8 [no]).selects (.dataApplicationChecksum 0x31#8) = true ∧
    hexPair 0x34#8 0x31#8 = some 0x41#8 ∧
    (pending .applicationChecksum 0x34#8 [no]).answer = some ⟨true, 5⟩ :=
  ⟨rfl, rfl, rfl, rfl, rfl, rfl⟩

theorem witness_FirmwareCharacter :
    (mid .applicationStore .application []).selects (.dataApplicationStore 0x66#8) = true ∧
    (pending .applicationStore 0x67#8 [yes]).selects (.dataApplicationStore 0x30#8) = true ∧
    hexPair 0x67#8 0x30#8 = none ∧
    (pending .applicationStore 0x66#8 [yes]).selects (.dataApplicationStore 0x46#8) = true ∧
    hexPair 0x66#8 0x46#8 = some 0xFF#8 ∧
    (pending .applicationStore 0x66#8 [yes]).answer = some ⟨false, 9⟩ :=
  ⟨rfl, rfl, rfl, rfl, rfl, rfl⟩

/-- The ends of the digits' ranges and the bytes beside them (95 L2.3). -/
theorem witness_HexDigits :
    hexval 0x30#8 = some 0 ∧ hexval 0x39#8 = some 9 ∧ hexval 0x41#8 = some 10 ∧
    hexval 0x46#8 = some 15 ∧ hexval 0x61#8 = some 10 ∧ hexval 0x66#8 = some 15 ∧
    hexval 0x2F#8 = none ∧ hexval 0x3A#8 = none ∧ hexval 0x40#8 = none ∧ hexval 0x47#8 = none ∧
    hexval 0x60#8 = none ∧ hexval 0x67#8 = none := by decide

theorem witness_HexPair : hexPair 0x41#8 0x32#8 = some 0xA2#8 ∧ hexPair 0x67#8 0x30#8 = none := by
  decide

/-- An empty WRITE, one that fills the queue, one byte too many. -/
theorem witness_WriteOverflows :
    (idle small).producer = .idle ∧ (idle small).fault = none ∧
    (idle small).q.length + ([] : List Byte).length ≤ small.qcap ∧
    (idle small).q.length + [0x41#8, 0x42#8, 0x43#8, 0x44#8].length ≤ small.qcap ∧
    small.qcap < (idle small).q.length + [0x41#8, 0x42#8, 0x43#8, 0x44#8, 0x45#8].length := by decide

/-- A WRITE at its EnqueueByte, the queue as given. -/
def enqueuing (q : List Byte) : State :=
  { idle small with q := q, producer := .enqueue 0x41#8 [0x42#8] 2 0 }

theorem witness_EnqueueByte :
    (enqueuing [0x01#8, 0x01#8, 0x01#8, 0x01#8]).q.length = small.qcap ∧
    (enqueuing [0x01#8, 0x01#8, 0x01#8]).q.length < small.qcap := by decide

/-- A halted block, between transactions and in either, at each control point. -/
def halted : State := { idle small with fault := some (.frameBufferOverflow 0x41#8) }

theorem witness_Halted :
    halted.producer = .idle ∧ halted.consumer = .idle ∧ halted.fault ≠ none ∧
    ({ halted with producer := .test 0x41#8 [] 1 0 } : State).fault ≠ none ∧
    ({ halted with consumer := .running ⟨7, []⟩ .test } : State).fault ≠ none ∧
    ({ halted with consumer := .running ⟨7, []⟩ .pop } : State).fault ≠ none := by decide

/-- A step of a halted block that goes on, with no RESET waiting: an EnqueueByte past its test. -/
theorem witness_HaltedStep :
    ∃ t, step { halted with producer := .enqueue 0x41#8 [] 1 0, inputs := [.producer] } = .next t ∧
      t.q = [0x41#8] := ⟨_, rfl, rfl⟩

theorem witness_ProcessOnEmpty :
    (idle small).consumer = .idle ∧ (idle small).fault = none ∧ (idle small).q = [] ∧
    (mid .payload .syscall []).consumer = .running ⟨7, []⟩ .pop ∧
    (mid .payload .syscall []).fault = none ∧ (mid .payload .syscall []).q = [] := by decide

theorem witness_ProcessIsALoop :
    (∃ u, byteStep 0x02#8 (mid .wait .unknown []) = .next u) ∧
    refusalOf (byteStep 0x41#8 (mid .payload .unknown [])) = some .unreachablePair ∧
    faultOf (byteStep 0x41#8 { mid .payload .syscall [] with wc := 3 }) =
      some (.frameBufferIndex 3) := ⟨⟨_, rfl⟩, rfl, rfl⟩

theorem witness_Reset : (idle small).producer = .idle ∧ (idle small).consumer = .idle := by decide

theorem witness_Overlapping :
    (enqueuing []).producer ≠ .idle ∧ (mid .wait .unknown []).consumer ≠ .idle := by decide

theorem witness_Reentry :
    (mid .init .application [.reenter]).selects .usInitApplication = true ∧
    (mid .init .application [.reenter]).answer = none ∧
    (full .payload .syscall [.reenter]).selects .etx = true ∧
    (full .payload .syscall [.reenter]).answer = none ∧
    (full .payload (.ext 0) [.reenter]).selects .etx = true ∧
    (full .payload .syscall [yes, .reenter]).answer = some ⟨false, 9⟩ ∧
    (full .payload .syscall [yes, .reenter]).advance.answer = none ∧
    (pending .applicationChecksum 0x34#8 [.reenter]).selects (.dataApplicationChecksum 0x31#8)
      = true ∧
    (pending .applicationChecksum 0x34#8 [.reenter]).answer = none :=
  ⟨rfl, rfl, rfl, rfl, rfl, rfl, rfl, rfl, rfl⟩

theorem witness_OwnStops :
    (mid .wait .unknown []).selects .etx = false ∧ (idle small).selects .stx = false ∧
    (mid .payload .unknown []).pairExists = false ∧
    (mid .payload (.ext 2) []).pairExists = false ∧ small.extTypes.length ≤ 2 ∧
    ({ mid .payload .syscall [] with wc := 3 } : State).selects (.dataPayload 0x41#8) = true ∧
    ({ mid .notificationSource .notification [] with wc := 3 } : State).selects
      (.dataNotificationSource 0x41#8) = true ∧
    ({ mid .notificationTitle .notification [] with wc := 3 } : State).selects
      (.dataNotificationTitle 0x41#8) = true ∧
    ({ mid .notificationBody .notification [] with wc := 3 } : State).selects
      (.dataNotificationBody 0x41#8) = true ∧
    ({ mid .payload .syscall [] with wc := 3 } : State).selects .etx = true ∧
    ({ mid .notificationBody .notification [] with wc := 3 } : State).selects .etx = true ∧
    ({ mid .payload (.ext 0) [] with wc := 3 } : State).selects .etx = true ∧
    extTarget small.extDispatch 0 = some "weather.show" ∧ small.fbcap < 3 ∧
    small.qcap < (enqueuing [0x01#8, 0x01#8, 0x01#8, 0x01#8, 0x01#8]).q.length := by decide

/-- A handler that goes on (the frames, the events, the dispatches, R154): one that stores, one that
calls, one that raises the fault. -/
theorem witness_HandlersGoOn :
    (∃ t, exec (.dataPayload 0x41#8) (mid .payload .syscall []) = .next t) ∧
    (∃ t, exec .etx (full .payload .syscall [yes, yes]) = .next t) ∧
    (∃ t, exec (.dataPayload 0x41#8) (full .payload .syscall []) = .next t ∧
      t.fault = some (.frameBufferOverflow 0x41#8)) :=
  ⟨⟨_, rfl⟩, ⟨_, rfl⟩, ⟨_, rfl, rfl⟩⟩

theorem witness_Producer : ∃ t, producerAdvance (enqueuing []) = .next t := ⟨_, rfl⟩

/-- In the middle of a frame, with the Frame Buffer full, the invariant holds. -/
theorem witness_Invariant : BlockInv { full .payload (.ext 0) [yes] with cfg := complete } where
  params := by decide
  pair := rfl
  type := by decide
  queue := by decide
  cursor := by decide
  fresh := by decide
  bodyless := by decide
  cursors := rfl
  index0 := by decide
  index1 := by decide
  index2 := by decide
  indices := trivial
  canonical := by decide
  stored := by decide
  filled := by decide
  pending := by decide
  writing := trivial
  fatal := trivial

theorem witness_Contract : Contract { full .payload (.ext 0) [yes] with cfg := complete } where
  answering := by
    intro a h
    simp [yes] at h
    simp [h]
  dispatching := by
    intro k h
    have : k = 0 := by simpa [complete] using h
    subst this
    rfl
  input := trivial

/-- Between transactions, with a frame in the queue. -/
theorem witness_ProcessReturns :
    BlockInv { idle complete with q := [0x02#8, 0x57#8, 0x1F#8, 0x03#8] } ∧
    dispatchesAll complete ∧ Ctx.answering ⟨7, [yes]⟩ := by
  refine ⟨?_, witness_Contract.dispatching, witness_Contract.answering⟩
  exact {
    params := by decide, pair := rfl, type := by decide, queue := by decide, cursor := by decide
    fresh := by decide, bodyless := by decide, cursors := rfl, index0 := by decide
    index1 := by decide, index2 := by decide, indices := trivial, canonical := by decide
    stored := by decide, filled := by decide, pending := by decide, writing := trivial
    fatal := trivial }

theorem witness_Step : ∃ t, step { full .payload (.ext 0) [yes] with cfg := complete } = .next t :=
  ⟨_, rfl⟩

theorem witness_FaultIsSticky :
    halted.fault = some (.frameBufferOverflow 0x41#8) ∧
    (∃ t, step { halted with inputs := [.write [0x41#8]] } = .next t) := ⟨rfl, _, rfl⟩

theorem witness_WaitLasts :
    (mid .wait .syscall []).st = .wait ∧ (mid .wait .syscall []).pairExists = true ∧
    (mid .wait .syscall []).consuming = true ∧
    (∀ b ∈ [0x03#8, 0x1F#8, 0xFF#8], b ≠ 0x02#8) := by decide

theorem witness_FrameFunction :
    (mid .wait .unknown [yes]).cfg = (full .payload .syscall [yes]).cfg ∧
    (mid .wait .unknown [yes]).consumer = (full .payload .syscall [yes]).consumer ∧
    (mid .wait .unknown [yes]).drawn = (full .payload .syscall [yes]).drawn ∧
    (∃ u, exec .stx (mid .wait .unknown [yes]) = .next u) ∧
    (∃ u, exec .stx (full .payload .syscall [yes]) = .next u) :=
  ⟨rfl, rfl, rfl, ⟨_, rfl⟩, ⟨_, rfl⟩⟩

/-- The frames of the three theorems on whole frames, in a Frame Buffer that they fill. -/
theorem witness_SyscallFrame :
    classify small 0x53#8 = .syscall ∧ isData 0x53#8 = true ∧
    (∀ b ∈ [0x54#8, 0x30#8], isData b = true) ∧ [0x54#8, 0x30#8].length ≤ small.fbcap ∧
    (∀ a ∈ [yes, no], a ≠ Answer.reenter) ∧ (idle small).pairExists = true := by
  decide

theorem witness_NotificationFrame :
    classify small 0x4E#8 = .notification ∧ isData 0x4E#8 = true ∧
    (∀ b ∈ [0x73#8] ++ [] ++ [0x62#8], isData b = true) ∧
    ([0x73#8] ++ [] ++ [0x62#8] : List Byte).length ≤ small.fbcap := by decide

theorem witness_ApplicationFrame :
    classify small 0x41#8 = .application ∧ isData 0x41#8 = true ∧
    hexPair 0x34#8 0x31#8 = some 0x41#8 ∧ hexPair 0x30#8 0x41#8 = some 0x0A#8 ∧
    yes = .respond ⟨false, 9⟩ ∧
    [(0x34#8, 0x31#8, 0x41#8)].length + [(0x30#8, 0x41#8, 0x0A#8)].length + 2
      ≤ [yes, yes, yes, yes].length := by decide

theorem witness_FrameBufferWrite : ∃ t, fbWrite 1 0x41#8 (idle small) = .next t := ⟨_, rfl⟩

/-- Moved by an input while a WRITE is in progress, and with no input and no WRITE. -/
theorem witness_StepRunsDecoded :
    (mid .wait .unknown []).pairExists = true ∧
    (mid .wait .unknown []).fault = none ∧
    ({ mid .wait .unknown [] with
      q := [0x02#8], inputs := [.consumer], producer := .test 0x41#8 [] 1 0 } : State).inputs =
        .consumer :: [] ∧
    (mid .wait .unknown []).consumer = .running ⟨7, []⟩ .pop ∧
    ({ mid .wait .unknown [] with q := [0x02#8] } : State).q = 0x02#8 :: [] ∧
    (mid .wait .unknown []).inputs = [] ∧ (mid .wait .unknown []).producer = .idle := by decide

theorem witness_StepRunsPorts :
    (idle small).pairExists = true ∧ (idle small).inputs = [] ∧
    (idle small).producer = .idle ∧ (idle small).consumer = .idle ∧ (idle small).fault = none ∧
    halted.producer = .idle ∧ halted.fault ≠ none ∧
    ({ idle small with producer := .test 0x41#8 [] 1 0 } : State).fault = none ∧
    (enqueuing []).producer ≠ .idle ∧ (enqueuing []).consumer = .idle ∧
    ({ mid .wait .unknown [] with consumer := .running ⟨7, []⟩ .test } : State).fault = none ∧
    (mid .wait .unknown []).producer = .idle ∧ (mid .wait .unknown []).consumer ≠ .idle ∧
    (mid .wait .unknown []).q = [] := by decide

/-- A WRITE of two bytes and a PROCESS of a byte that stops: the whole and the stepped run agree
where the run goes on and where it does not. -/
theorem witness_Stepped :
    (idle small).pairExists = true ∧ (idle small).producer = .idle ∧
    (idle small).consumer = .idle ∧ small.wf = true ∧
    (∃ t, exec (.write [0x41#8, 0x42#8]) (idle small) = .next t ∧ t.q = [0x41#8, 0x42#8]) ∧
    refusalOf (exec (.process ⟨7, []⟩)
      { idle small with st := .init, ty := .ext 1, q := [0x03#8] }) = some (.noExtDispatch 1) :=
  ⟨rfl, rfl, rfl, by decide, ⟨_, rfl, rfl⟩, rfl⟩

/-- The two orders of ByteWrittenDuringProcessMayGoEitherWay (95 Q12), on one state. -/
theorem witness_EitherWay :
    (idle small).st = .wait ∧ (idle small).pairExists = true ∧ (idle small).consumer = .idle ∧
    (idle small).producer = .idle ∧
    (idle small).fault = none ∧
    ({ idle small with q := [0x41#8] } : State).q = [0x41#8] ∧ isData 0x41#8 = true ∧
    isData 0x42#8 = true ∧ 1 ≤ small.qcap := by decide

end Sys2Proof.Tests
end

section
/-! PROOFS. The scope (00_scope.md): no step changes the parameters (R7), and what a step does with
each input and with none (R2). The lemmas say what the ends of a transaction leave of the parameters,
what the begin of a transaction does case by case, and which agent goes on where no input waits. -/

namespace Sys2Proof.Machine

/-! ### The parameters -/

@[simp] theorem finishWrite_cfg (r : PortResult) (s : State) : (finishWrite r s).cfg = s.cfg := rfl

@[simp] theorem finishProcess_cfg (r : PortResult) (s : State) :
    (finishProcess r s).cfg = s.cfg := rfl

@[simp] theorem raiseFatal_cfg (f : FatalFault) (s : State) : (raiseFatal f s).cfg = s.cfg := by
  rw [raiseFatal_eq]

@[simp] theorem nextByte_cfg (rest : List Byte) (n k : Nat) (s : State) :
    (nextByte rest n k s).cfg = s.cfg := by cases rest <;> rfl

@[simp] theorem nextIteration_cfg (s : State) : (nextIteration s).cfg = s.cfg := by
  unfold nextIteration
  split <;> rfl

theorem beginWrite_keeps_cfg {bytes : List Byte} {s t : State}
    (h : beginWrite bytes s = .next t) : t.cfg = s.cfg := by
  obtain ⟨-, ⟨-, rfl⟩ | ⟨-, -, rfl⟩ | ⟨-, b, rest, -, rfl⟩⟩ := beginWrite_eq_next h <;> rfl

theorem beginProcess_keeps_cfg {ctx : Ctx} {s t : State}
    (h : beginProcess ctx s = .next t) : t.cfg = s.cfg := by
  obtain ⟨-, rfl⟩ := beginProcess_eq_next h
  rfl

theorem producerAdvance_keeps_cfg {s t : State} (h : producerAdvance s = .next t) :
    t.cfg = s.cfg := by
  obtain ⟨-, rfl⟩ | ⟨b, rest, n, k, -, ⟨-, rfl⟩ | ⟨-, rfl⟩⟩ |
    ⟨b, rest, n, k, -, ⟨-, rfl⟩ | ⟨-, rfl⟩⟩ := producerAdvance_eq_next h <;> simp

theorem consumerAdvance_keeps_cfg {s t : State} (h : consumerAdvance s = .next t) :
    t.cfg = s.cfg := by
  obtain ⟨-, rfl⟩ | ⟨ctx, ph, -, -, rfl⟩ | ⟨ctx, -, -, rfl⟩ |
    ⟨ctx, -, -, ⟨-, rfl⟩ | ⟨b, rest, u, -, -, hstep, rfl⟩⟩ := consumerAdvance_eq_next h
  case inr.inr.inr.inr =>
    obtain ⟨-, hcfg, -⟩ := hstep.kept
    simp [hcfg]
  all_goals rfl

theorem execReset_keeps_cfg {s t : State} (h : execReset s = .next t) : t.cfg = s.cfg := by
  obtain ⟨-, -, rfl⟩ := execReset_eq_next h
  rfl

/-- Settles O44: every atomic step of the machine keeps the parameters, so a step does. -/
theorem noStepChangesParameters : Obligations.NoStepChangesParameters := by
  intro s t h
  refine step_rel ?refl ?trans State.setInputs_cfg State.setDrawn_cfg beginWrite_keeps_cfg
    beginProcess_keeps_cfg producerAdvance_keeps_cfg consumerAdvance_keeps_cfg
    (fun _ _ _ => execReset_keeps_cfg) h
  case refl => exact fun _ => rfl
  case trans => exact fun hst htu => htu.trans hst

/-! ### The begin and the end of a transaction -/

theorem finishWrite_of_idle {s : State} (h : s.producer = .idle) (r : PortResult) :
    finishWrite r s = s.addResult r := by
  cases s; cases h; rfl

/-- R93: a WRITE begun on a halted engine returns at once. -/
theorem beginWrite_halted {s : State} (h : s.producer = .idle) (hf : s.fault ≠ none)
    (bytes : List Byte) : beginWrite bytes s = .next (s.addResult .writeHalted) := by
  simp only [beginWrite, h, State.halted_of_ne hf, if_true, finishWrite_of_idle h]

/-- R90: a WRITE of no bytes returns at its begin (log 25). -/
theorem beginWrite_nil {s : State} (h : s.producer = .idle) (hf : s.fault = none) :
    beginWrite [] s = .next (s.addResult .writeOk) := by
  simp [beginWrite, h, State.halted_of_none hf, finishWrite_of_idle h]

/-- R90: a begun WRITE stands before the fault test of its first byte. -/
theorem beginWrite_cons {s : State} (h : s.producer = .idle) (hf : s.fault = none) (b : Byte)
    (rest : List Byte) : beginWrite (b :: rest) s =
      .next (s.setProducer (.test b rest (b :: rest).length 0)) := by
  simp [beginWrite, h, State.halted_of_none hf]

/-- R94: a begun PROCESS stands before its fault test. -/
theorem beginProcess_of_idle {s : State} (h : s.consumer = .idle) (ctx : Ctx) :
    beginProcess ctx s = .next (s.setConsumer (.running ctx .test)) := by
  simp [beginProcess, h]

/-! ### Which agent goes on -/

theorem State.producing_eq_false_iff {s : State} : s.producing = false ↔ s.producer = .idle := by
  cases h : s.producer <;> simp [State.producing, h]

theorem State.producing_iff {s : State} : s.producing = true ↔ s.producer ≠ .idle := by
  cases h : s.producer <;> simp [State.producing, h]

theorem State.consuming_eq_false_iff {s : State} : s.consuming = false ↔ s.consumer = .idle := by
  cases h : s.consumer <;> simp [State.consuming, h]

theorem State.consuming_iff {s : State} : s.consuming = true ↔ s.consumer ≠ .idle := by
  cases h : s.consumer <;> simp [State.consuming, h]

/-- With no WRITE in progress the consumer goes on; an idle one does nothing (R216). -/
theorem goOn_of_producer_idle {s : State} (h : s.producer = .idle) :
    goOn s = consumerAdvance s := by
  simp [goOn, State.producing_eq_false_iff.2 h]

theorem goOn_of_consumer_idle {s : State} (hp : s.producer ≠ .idle) (hc : s.consumer = .idle) :
    goOn s = producerAdvance s := by
  simp [goOn, State.producing_iff.2 hp, State.consuming_eq_false_iff.2 hc]

/-- Where both agents are in a transaction a free value chooses (I7; log 7). -/
theorem goOn_of_both {s : State} (hp : s.producer ≠ .idle) (hc : s.consumer ≠ .idle) :
    goOn s = if Config.freeTurn s.drawn then producerAdvance (s.setDrawn (s.drawn + 1))
      else consumerAdvance (s.setDrawn (s.drawn + 1)) := by
  simp [goOn, State.producing_iff.2 hp, State.consuming_iff.2 hc]

/-- Settles O57: the step is what the next input asks for, and each clause is the lemma on that
agent's action, at the state with the input taken. -/
theorem stepRunsPortTransactions : Obligations.StepRunsPortTransactions := by
  intro s ins hpair
  refine ⟨fun bytes hi => step_of_input hpair hi, fun ctx hi => step_of_input hpair hi,
    fun hi => step_of_input hpair hi, fun bytes hi => ?writeBegin, fun ctx hi => ?processBegin,
    fun hi => ?producer, fun hi => ?consumer, fun hi => ?noInput⟩
  case writeBegin =>
    have hstep : step s = beginWrite bytes (s.setInputs ins) := step_of_input hpair hi
    rw [hstep]
    refine ⟨rfl, fun hp hf => @beginWrite_halted (s.setInputs ins) hp hf bytes, ?_, ?_⟩
    · rintro hp hf rfl
      exact @beginWrite_nil (s.setInputs ins) hp hf
    · rintro b rest hp hf rfl
      exact @beginWrite_cons (s.setInputs ins) hp hf b rest
  case processBegin =>
    have hstep : step s = beginProcess ctx (s.setInputs ins) := step_of_input hpair hi
    rw [hstep]
    exact ⟨rfl, fun hc => @beginProcess_of_idle (s.setInputs ins) hc ctx⟩
  case producer =>
    have hstep : step s = producerAdvance (s.setInputs ins) := step_of_input hpair hi
    rw [hstep]
    exact ⟨rfl, @producerAdvance_idle (s.setInputs ins),
      fun _ _ _ _ => @producerAdvance_test (s.setInputs ins) _ _ _ _⟩
  case consumer =>
    have hstep : step s = consumerAdvance (s.setInputs ins) := step_of_input hpair hi
    rw [hstep]
    exact ⟨rfl, @consumerAdvance_idle (s.setInputs ins),
      fun ctx => @consumerAdvance_test (s.setInputs ins) ctx,
      fun ctx => @consumerAdvance_empty (s.setInputs ins) ctx⟩
  case noInput =>
    rw [step_of_no_input hpair hi]
    refine ⟨fun hp hc => ?_, goOn_of_consumer_idle, fun hp _ => goOn_of_producer_idle hp,
      goOn_of_both⟩
    rw [goOn_of_producer_idle hp, consumerAdvance_idle hc]

end Sys2Proof.Machine
end

section
/-! PROOFS. The state (10_state.md): the machine after reset (R34), every step keeps the invariant of
the block (R24 to R31), and what the byte handlers leave as it was (R36). The invariant is carried by
one lemma per update that the handlers, the agents and RESET are written in. -/

namespace Sys2Proof.Machine

/-! ### The type that a frame state past Init leaves (R31) -/

theorem State.type_of_payload {s : State} (hp : s.pairExists = true) (h : s.st = .payload) :
    ¬ (s.ty = .unknown ∨ s.ty = .application) ∧ s.ty ≠ .notification := by
  unfold State.pairExists pairOk at hp
  cases ht : s.ty <;> simp [h, ht] at hp ⊢

theorem State.application_of_hex {s : State} (hp : s.pairExists = true)
    (h : s.st = .applicationChecksum ∨ s.st = .applicationStore) : s.ty = .application := by
  unfold State.pairExists pairOk at hp
  rcases h with h | h <;> simp [h] at hp <;> exact hp.2

theorem State.notification_of_section {s : State} (hp : s.pairExists = true)
    (h : s.st = .notificationSource ∨ s.st = .notificationTitle ∨ s.st = .notificationBody) :
    s.ty = .notification := by
  unfold State.pairExists pairOk at hp
  rcases h with h | h | h <;> simp [h] at hp <;> exact hp.2

/-! ### The invariant under the updates -/

section
variable {s : State} (h : BlockInv s)
include h

theorem BlockInv.setInputs (v : List Input) : BlockInv (s.setInputs v) := { h with }
theorem BlockInv.setDrawn (v : Nat) : BlockInv (s.setDrawn v) := { h with }
theorem BlockInv.setConsumer (v : Consumer) : BlockInv (s.setConsumer v) := { h with }
theorem BlockInv.advance : BlockInv s.advance := { h with }
theorem BlockInv.addCall (c : Call) : BlockInv (s.addCall c) := { h with }
theorem BlockInv.emit (d : Diag) : BlockInv (s.emit d) := { h with }
theorem BlockInv.addResult (r : PortResult) : BlockInv (s.addResult r) := { h with }

theorem BlockInv.setQ {v : List Byte} (hv : v.length ≤ s.cfg.qcap) : BlockInv (s.setQ v) :=
  { h with queue := hv }

theorem BlockInv.setProducer {v : Producer} (hv : producerOk (s.setProducer v)) :
    BlockInv (s.setProducer v) := { h with writing := hv }

/-- R205, R207: the first fault is recorded, a later one is not. -/
theorem BlockInv.raiseFatal {f : FatalFault} (hf : faultOk (s.setFault (some f))) :
    BlockInv (raiseFatal f s) := by
  unfold Machine.raiseFatal
  split
  · exact { h with fatal := hf }
  · exact h

/-- A frame state other than Init, where it makes a pair and its indices are in order. -/
theorem BlockInv.setSt {v : FrameState} (hv : v ≠ .init) (hp : (s.setSt v).pairExists = true)
    (hi : indicesOk (s.setSt v)) : BlockInv (s.setSt v) :=
  { h with
    pair := hp
    fresh := fun hc => absurd hc hv
    indices := hi
    pending := fun hf => ⟨hv, (h.pending hf).2⟩ }

/-- R31: in Wait every type and all indices will do. -/
theorem BlockInv.toWait : BlockInv (s.setSt .wait) :=
  h.setSt (by decide) (State.pairExists_of_known (.inl rfl) h.type) trivial

theorem BlockInv.abortFrame (d : Diag) : BlockInv (abortFrame d s) := h.toWait.emit d

/-- R131: STX leaves an empty frame. -/
theorem BlockInv.startFrame : BlockInv (startFrame s) := by
  rw [startFrame_eq]
  exact {
    params := h.params
    pair := State.pairExists_of_known (.inr rfl) rfl
    type := rfl
    queue := h.queue
    cursor := Nat.zero_le _
    fresh := fun _ => rfl
    bodyless := fun _ => rfl
    cursors := rfl
    index0 := Nat.le_refl 0
    index1 := Nat.le_refl 0
    index2 := Nat.le_refl 0
    indices := ⟨rfl, rfl, rfl⟩
    canonical := h.canonical
    stored := h.stored
    filled := fun _ hi => absurd hi (Nat.not_lt_zero _)
    pending := nofun
    writing := h.writing
    fatal := h.fatal }

/-- R146: nothing is stored and no character pends in Init, so any type of the configuration will
do. -/
theorem BlockInv.setTy (hst : s.st = .init) {v : MsgType}
    (hv : v.known s.cfg.extTypes.length = true) : BlockInv (s.setTy v) :=
  { h with
    pair := State.pairExists_of_known (.inr hst) hv
    type := hv
    bodyless := fun _ => h.fresh hst
    cursors := by
      have hwc : s.wc = 0 := h.fresh hst
      have hsc := h.cursors
      simp only [hwc, ite_self] at hsc
      simp [hwc, hsc]
    pending := fun hf => absurd hst (h.pending hf).1 }

/-- R142: the source field ends where the section cursor is. -/
theorem BlockInv.endSource (hst : s.st = .notificationSource)
    (hp : (s.setSt .notificationTitle).pairExists = true) :
    BlockInv ((s.setIdx0 s.sc).setSt .notificationTitle) := by
  have hi := h.indices
  simp only [indicesOk, hst] at hi
  have ht : BlockInv (s.setSt .notificationTitle) := h.setSt (by decide) hp hi.2
  exact { ht with index0 := Nat.le_refl s.sc }

/-- R143: the title field ends where the section cursor is, no earlier than the source field. -/
theorem BlockInv.endTitle (hst : s.st = .notificationTitle)
    (hp : (s.setSt .notificationBody).pairExists = true) :
    BlockInv ((s.setIdx1 s.sc).setSt .notificationBody) := by
  have hi := h.indices
  simp only [indicesOk, hst] at hi
  exact
    { h with
      pair := hp
      fresh := nofun
      index1 := Nat.le_refl s.sc
      indices := ⟨h.index0, hi.2⟩
      pending := fun hf => ⟨by simp, (h.pending hf).2⟩ }

/-- R183: ETX stamps the third index with the section cursor. -/
theorem BlockInv.endBody : BlockInv ((s.setSt .wait).setIdx2 s.sc) :=
  { h.toWait with index2 := Nat.le_refl s.sc, indices := trivial }

/-- R147, R53: one byte more is stored, at the cursor. -/
theorem BlockInv.store {d : Byte} {n : Nat} (hd : isData d = true) (hw : s.wc < s.cfg.fbcap)
    (hst : s.st ≠ .init) (hty : ¬ (s.ty = .unknown ∨ s.ty = .application)) (hsc : s.sc ≤ n)
    (hn : n = if s.ty = .notification then s.wc + 1 else 0) :
    BlockInv (((s.setFb (Memory.write s.fb s.wc d)).setWc (s.wc + 1)).setSc n) :=
  { h with
    cursor := hw
    fresh := fun hc => absurd hc hst
    bodyless := fun hc => absurd hc hty
    cursors := hn
    index0 := h.index0.trans hsc
    index1 := h.index1.trans hsc
    index2 := h.index2.trans hsc
    canonical := Memory.wf_write h.canonical
    stored := by
      intro c hc
      obtain rfl | hc := Memory.mem_write hc
      · exact ⟨hw, hd⟩
      · exact h.stored c hc
    filled := by
      intro i hi
      obtain rfl | hne := eq_or_ne i s.wc
      · exact Option.isSome_iff_exists.2 ⟨d, Memory.read_write_same s.fb s.wc d⟩
      · have hlt : i < s.wc := Nat.lt_of_le_of_ne (Nat.lt_succ_iff.1 hi) hne
        exact (congrArg Option.isSome (Memory.read_write_other hne)).trans (h.filled i hlt) }

/-- R28, R113: a first character pends in the hex states alone. -/
theorem BlockInv.feedFirst {d : Byte} (hd : isData d = true)
    (hst : s.st = .applicationChecksum ∨ s.st = .applicationStore) :
    BlockInv ((s.setHxC0 d).setHxFill true) :=
  { h with
    pending := fun _ =>
      ⟨by rcases hst with hst | hst <;> simp [hst], State.application_of_hex h.pair hst, hd⟩ }

/-- R113: after a second character none pends. -/
theorem BlockInv.feedSecond (d : Byte) : BlockInv ((s.setHxC1 d).setHxFill false) :=
  { h with pending := nofun }

/-- R148: a byte of a generic payload. -/
theorem BlockInv.storePayload {d : Byte} (hd : isData d = true) (hw : s.wc < s.cfg.fbcap)
    (hst : s.st = .payload) :
    BlockInv ((s.setFb (Memory.write s.fb s.wc d)).setWc (s.wc + 1)) := by
  obtain ⟨hty, hne⟩ := State.type_of_payload h.pair hst
  refine h.store (n := s.sc) hd hw (by simp [hst]) hty (Nat.le_refl s.sc) ?_
  rw [if_neg hne, h.cursors, if_neg hne]

/-- R149 to R151: a byte of a Notification's field moves both cursors. -/
theorem BlockInv.storeSection {d : Byte} (hd : isData d = true) (hw : s.wc < s.cfg.fbcap)
    (hst : s.st = .notificationSource ∨ s.st = .notificationTitle ∨ s.st = .notificationBody) :
    BlockInv (((s.setFb (Memory.write s.fb s.wc d)).setWc (s.wc + 1)).setSc (s.sc + 1)) := by
  have hty : s.ty = .notification := State.notification_of_section h.pair hst
  have hsc : s.sc = s.wc := by rw [h.cursors, if_pos hty]
  refine h.store hd hw (by rcases hst with hst | hst | hst <;> simp [hst]) (by simp [hty])
    (Nat.le_succ s.sc) ?_
  rw [if_pos hty, hsc]

end

/-- R230: RESET leaves the empty block, with the parameters it had. -/
theorem blockInv_resetBlock {s : State} (h : s.cfg.wf = true) : BlockInv (resetBlock s) where
  params := h
  pair := State.pairExists_of_known (.inl rfl) rfl
  type := rfl
  queue := Nat.zero_le _
  cursor := Nat.zero_le _
  fresh := nofun
  bodyless := fun _ => rfl
  cursors := rfl
  index0 := Nat.le_refl 0
  index1 := Nat.le_refl 0
  index2 := Nat.le_refl 0
  indices := trivial
  canonical := rfl
  stored := nofun
  filled := fun _ hi => absurd hi (Nat.not_lt_zero _)
  pending := nofun
  writing := trivial
  fatal := trivial

/-! ### The invariant under the agents -/

/-- Every handler keeps the invariant. -/
theorem HandlerStep.blockInv {i : Instr} {s t : State} (hstep : HandlerStep s i t)
    (h : BlockInv s) : BlockInv t := by
  have hpair : t.pairExists = true := hstep.pairExists h.params h.pair
  cases hstep
  case stxIdle => exact h.startFrame
  case stxMidFrame => exact (h.emit _).startFrame
  case etxWait | usWait | dataWait => exact h
  case etxUnknown => exact h.toWait
  case etxVerified | etxHandedOver => exact h.toWait.advance.addCall _
  case etxVerifyFailed => exact (((h.toWait.advance.addCall _).advance).addCall _).emit _
  case etxAdded => exact h.endBody.advance.addCall _
  case etxAddFailed => exact (h.endBody.advance.addCall _).emit _
  case etxExecuted => exact (h.toWait.advance.addCall _).advance.addCall _
  case etxParseFailed => exact (h.toWait.advance.addCall _).emit _
  case usInitUnknown | usApplicationStore | usNotificationBody => exact h.abortFrame _
  case killed => exact (h.advance.addCall _).setSt (by decide) hpair trivial
  case killFailed => exact (h.advance.addCall _).abortFrame _
  case usInitNotification hst _ =>
    have hi := h.indices
    simp only [indicesOk, hst] at hi
    exact h.setSt (by decide) hpair hi
  case usInitSyscall | usInitExt | usPayload | usApplicationChecksum =>
    exact h.setSt (by decide) hpair trivial
  case usNotificationSource hst => exact h.endSource hst hpair
  case usNotificationTitle hst => exact h.endTitle hst hpair
  case typeKnown d hst _ _ => exact h.setTy hst (classify_known h.params d)
  case typeUnknown hst _ _ => exact (h.setTy hst rfl).abortFrame _
  case payloadStored d hst hd hw => exact h.storePayload hd hw hst
  case sectionStored d hd hw hi =>
    exact h.storeSection hd hw (hi.imp And.right (Or.imp And.right And.right))
  case payloadOverflow hd _ | sectionOverflow hd _ _ => exact h.raiseFatal hd
  case firstCharacter hd _ hi => exact h.feedFirst hd (hi.imp And.right And.right)
  case badPair => exact (h.feedSecond _).abortFrame _
  case pairTaken => exact (h.feedSecond _).advance.addCall _
  case pairRejected => exact ((h.feedSecond _).advance.addCall _).abortFrame _

theorem BlockInv.finishWrite {s : State} (h : BlockInv s) (r : PortResult) :
    BlockInv (finishWrite r s) := (h.setProducer (v := .idle) trivial).addResult r

theorem BlockInv.finishProcess {s : State} (h : BlockInv s) (r : PortResult) :
    BlockInv (finishProcess r s) := (h.setConsumer .idle).addResult r

theorem BlockInv.nextIteration {s : State} (h : BlockInv s) : BlockInv (nextIteration s) := by
  unfold Machine.nextIteration
  split
  · exact h
  · exact h.setConsumer _

/-- R90: the loop's next byte, where byte `k` is pushed and the rest is left of `n`. -/
theorem BlockInv.nextByte {s : State} (h : BlockInv s) {rest : List Byte} {n k : Nat}
    (hk : k + rest.length = n) : BlockInv (nextByte rest n k s) := by
  cases rest with
  | nil => exact h.finishWrite .writeOk
  | cons b rest => exact h.setProducer (v := .test b rest n k) hk

theorem beginWrite_keeps_blockInv {bytes : List Byte} {s t : State}
    (hstep : beginWrite bytes s = .next t) (h : BlockInv s) : BlockInv t := by
  obtain ⟨-, ⟨-, rfl⟩ | ⟨-, -, rfl⟩ | ⟨-, b, rest, rfl, rfl⟩⟩ := beginWrite_eq_next hstep
  · exact h.finishWrite _
  · exact h.finishWrite _
  · refine h.setProducer ?_
    simp [producerOk]

theorem beginProcess_keeps_blockInv {ctx : Ctx} {s t : State}
    (hstep : beginProcess ctx s = .next t) (h : BlockInv s) : BlockInv t := by
  obtain ⟨-, rfl⟩ := beginProcess_eq_next hstep
  exact h.setConsumer _

theorem producerAdvance_keeps_blockInv {s t : State} (hstep : producerAdvance s = .next t)
    (h : BlockInv s) : BlockInv t := by
  have hwriting := h.writing
  obtain ⟨-, rfl⟩ | ⟨b, rest, n, k, hp, ⟨-, rfl⟩ | ⟨-, rfl⟩⟩ |
    ⟨b, rest, n, k, hp, ⟨-, rfl⟩ | ⟨hq, rfl⟩⟩ := producerAdvance_eq_next hstep
  case inl => exact h
  all_goals
    have hk : k + rest.length + 1 = n := by simpa only [producerOk, hp] using hwriting
  · exact h.finishWrite _
  · exact h.setProducer (v := .enqueue b rest n k) hk
  · have hlt : k < n := by omega
    exact (h.raiseFatal (f := .queueOverflow n k) hlt).finishWrite _
  · have hroom : (s.q ++ [b]).length ≤ s.cfg.qcap := by simpa using hq
    exact (h.setQ hroom).nextByte (by omega)

theorem consumerAdvance_keeps_blockInv {s t : State} (hstep : consumerAdvance s = .next t)
    (h : BlockInv s) : BlockInv t := by
  obtain ⟨-, rfl⟩ | ⟨ctx, ph, -, -, rfl⟩ | ⟨ctx, -, -, rfl⟩ |
    ⟨ctx, -, -, ⟨-, rfl⟩ | ⟨b, rest, u, hq, -, hu, rfl⟩⟩ := consumerAdvance_eq_next hstep
  · exact h
  · exact h.finishProcess _
  · exact h.setConsumer _
  · exact h.finishProcess _
  · have hroom : rest.length ≤ s.cfg.qcap :=
      (Nat.le_succ _).trans (by simpa [hq] using h.queue)
    exact (hu.blockInv (h.setQ hroom)).nextIteration

theorem execReset_keeps_blockInv {s t : State} (hstep : execReset s = .next t)
    (h : BlockInv s) : BlockInv t := by
  obtain ⟨-, -, rfl⟩ := execReset_eq_next hstep
  exact blockInv_resetBlock h.params

/-- Settles O41: every atomic step of the machine keeps the invariant, so a step does. -/
theorem everyStepKeepsInvariant : Obligations.EveryStepKeepsInvariant := by
  intro s t hs h
  refine step_rel (R := fun s t => BlockInv s → BlockInv t) ?refl ?trans
    (fun _ v hs => hs.setInputs v) (fun _ v hs => hs.setDrawn v) beginWrite_keeps_blockInv
    beginProcess_keeps_blockInv producerAdvance_keeps_blockInv consumerAdvance_keeps_blockInv
    (fun _ _ _ => execReset_keeps_blockInv) h hs
  case refl => exact fun _ hs => hs
  case trans => exact fun hst htu hs => htu (hst hs)

/-! ### The machine after reset -/

/-- R7, R8: whatever `FBCAP` is, it is at least 1. -/
theorem canonical_wf : Config.canonical.wf = true := by
  simp [Config.canonical, Config.wf, MsgType.known]

/-- Settles O40: the machine after reset differs from what RESET leaves in free values alone, of
which the invariant reads the decoder's first character, and that only where it pends. -/
theorem resetStateMeetsInvariant : Obligations.ResetStateMeetsInvariant := by
  have h : BlockInv (resetBlock State.reset) := blockInv_resetBlock canonical_wf
  exact { h with pending := nofun }

/-- Settles O32: each value is the one that R34 gives. -/
theorem stateAfterResetIsAsSpecified : Obligations.StateAfterResetIsAsSpecified :=
  ⟨rfl, rfl, rfl, rfl, rfl, rfl, rfl, rfl, rfl, rfl⟩

end Sys2Proof.Machine

namespace Sys2Proof

/-! ### What the byte handlers leave as it was (R36) -/

/-- The handlers that append the byte to the Frame Buffer (R147 to R151). -/
def Instr.appends (i : Instr) : Prop :=
  (∃ d, i = .dataPayload d) ∨ (∃ d, i = .dataNotificationSource d) ∨
    (∃ d, i = .dataNotificationTitle d) ∨ ∃ d, i = .dataNotificationBody d

theorem Instr.not_appends {i : Instr} (hp : ∀ d, i ≠ .dataPayload d)
    (hs : ∀ d, i ≠ .dataNotificationSource d) (ht : ∀ d, i ≠ .dataNotificationTitle d)
    (hb : ∀ d, i ≠ .dataNotificationBody d) : ¬ i.appends := by
  rintro (⟨d, hi⟩ | ⟨d, hi⟩ | ⟨d, hi⟩ | ⟨d, hi⟩)
  · exact hp d hi
  · exact hs d hi
  · exact ht d hi
  · exact hb d hi

theorem Instr.appends_of_section {i : Instr} {d : Byte} {p q r : Prop}
    (hi : (i = .dataNotificationSource d ∧ p) ∨ (i = .dataNotificationTitle d ∧ q) ∨
      (i = .dataNotificationBody d ∧ r)) : i.appends := by
  obtain ⟨hi, -⟩ | ⟨hi, -⟩ | ⟨hi, -⟩ := hi
  · exact .inr (.inl ⟨d, hi⟩)
  · exact .inr (.inr (.inl ⟨d, hi⟩))
  · exact .inr (.inr (.inr ⟨d, hi⟩))

end Sys2Proof

namespace Sys2Proof.Machine

section
variable {i : Instr} {s t : State} (h : HandlerStep s i t)
include h

theorem HandlerStep.fbBase : t.fbBase = s.fbBase := by
  cases h <;> simp [startFrame, hexReset, abortFrame, raiseFatal_eq]

/-- The column `st`, for the handlers that do not write it or, US in Payload, write what it is. -/
theorem HandlerStep.st_eq (hi : i = .etxWait ∨ i = .usWait ∨ i = .usPayload ∨
    (∃ d, i = .dataWait d) ∨ (∃ d, i = .dataPayload d) ∨ (∃ d, i = .dataNotificationSource d) ∨
    (∃ d, i = .dataNotificationTitle d) ∨ ∃ d, i = .dataNotificationBody d) : t.st = s.st := by
  cases h
  case usPayload hst => exact hst.symm
  case badPair hex | pairRejected hex => rcases hex with ⟨rfl, -⟩ | ⟨rfl, -⟩ <;> simp at hi
  all_goals simp [raiseFatal_eq] at hi ⊢

/-- The column `ty`: STX and the classification. -/
theorem HandlerStep.ty_eq (hstx : i ≠ .stx) (hinit : ∀ d, i ≠ .dataInit d) : t.ty = s.ty := by
  cases h
  case stxIdle | stxMidFrame => exact absurd rfl hstx
  case typeKnown d _ _ _ | typeUnknown d _ _ _ => exact absurd rfl (hinit d)
  all_goals simp [abortFrame, raiseFatal_eq]

/-- The columns `fb` and `fault`: the appends. -/
theorem HandlerStep.fb_fault_eq (hi : ¬ i.appends) : t.fb = s.fb ∧ t.fault = s.fault := by
  cases h
  case payloadStored d _ _ _ | payloadOverflow d _ _ _ => exact absurd (.inl ⟨d, rfl⟩) hi
  case sectionStored hs | sectionOverflow hs => exact absurd (Instr.appends_of_section hs) hi
  all_goals simp [startFrame, hexReset, abortFrame]

/-- The columns `wc` and `sc`: STX and the appends. -/
theorem HandlerStep.wc_sc_eq (hi : ¬ i.appends) (hstx : i ≠ .stx) :
    t.wc = s.wc ∧ t.sc = s.sc := by
  cases h
  case stxIdle | stxMidFrame => exact absurd rfl hstx
  case payloadStored d _ _ _ => exact absurd (.inl ⟨d, rfl⟩) hi
  case sectionStored hs => exact absurd (Instr.appends_of_section hs) hi
  all_goals simp [abortFrame, raiseFatal_eq]

/-- An append stores at `wc`; every other index of the storage reads as before. -/
theorem HandlerStep.read_fb_eq {a : Nat} (ha : a ≠ s.wc) :
    Memory.read t.fb a = Memory.read s.fb a := by
  cases h
  case payloadStored | sectionStored => exact Memory.read_write_other ha
  all_goals simp [startFrame, hexReset, abortFrame, raiseFatal_eq]

/-- R148: a payload byte leaves the section cursor. -/
theorem HandlerStep.sc_eq_of_payload (hi : ∃ d, i = .dataPayload d) : t.sc = s.sc := by
  cases h
  case sectionStored hs => rcases hs with ⟨rfl, -⟩ | ⟨rfl, -⟩ | ⟨rfl, -⟩ <;> simp at hi
  all_goals simp [abortFrame, raiseFatal_eq] at hi ⊢

/-- The column `idx[0]`: STX and the end of the source field. -/
theorem HandlerStep.idx0_eq (hstx : i ≠ .stx) (hus : i ≠ .usNotificationSource) :
    t.idx0 = s.idx0 := by
  cases h
  case stxIdle | stxMidFrame => exact absurd rfl hstx
  case usNotificationSource => exact absurd rfl hus
  all_goals simp [abortFrame, raiseFatal_eq]

/-- The column `idx[1]`: STX and the end of the title field. -/
theorem HandlerStep.idx1_eq (hstx : i ≠ .stx) (hus : i ≠ .usNotificationTitle) :
    t.idx1 = s.idx1 := by
  cases h
  case stxIdle | stxMidFrame => exact absurd rfl hstx
  case usNotificationTitle => exact absurd rfl hus
  all_goals simp [abortFrame, raiseFatal_eq]

/-- The column `idx[2]`: STX and the dispatch of a Notification. -/
theorem HandlerStep.idx2_eq (hstx : i ≠ .stx) (hetx : ¬ (i = .etx ∧ s.ty = .notification)) :
    t.idx2 = s.idx2 := by
  cases h
  case stxIdle | stxMidFrame => exact absurd rfl hstx
  case etxAdded hty _ _ _ _ => exact absurd ⟨rfl, hty⟩ hetx
  case etxAddFailed hty _ _ _ _ _ => exact absurd ⟨rfl, hty⟩ hetx
  all_goals simp [abortFrame, raiseFatal_eq]

/-- The columns of the decoder: the hex handlers and, of the fill bit, STX. -/
theorem HandlerStep.decoder_eq (hsum : ∀ d, i ≠ .dataApplicationChecksum d)
    (hstore : ∀ d, i ≠ .dataApplicationStore d) :
    t.hxC0 = s.hxC0 ∧ t.hxC1 = s.hxC1 ∧ (i ≠ .stx → t.hxFill = s.hxFill) := by
  have hex : ∀ (d : Byte) {p q : Prop},
      ¬ ((i = .dataApplicationChecksum d ∧ p) ∨ (i = .dataApplicationStore d ∧ q)) := by
    rintro d p q (⟨hi, -⟩ | ⟨hi, -⟩)
    · exact hsum d hi
    · exact hstore d hi
  cases h
  case firstCharacter d _ _ hi => exact absurd hi (hex d)
  case badPair d _ _ _ hi => exact absurd hi (hex d)
  case pairTaken d _ _ _ _ _ _ _ _ hi => exact absurd hi (hex d)
  case pairRejected d _ _ _ _ _ _ _ _ _ _ hi => exact absurd hi (hex d)
  all_goals simp [startFrame, hexReset, abortFrame, raiseFatal_eq]

end

/-- R186: draws leave of a running PROCESS its identity, its control point and a tail of its
answers. -/
theorem State.advanceBy_consumer_running (n : Nat) {s : State} {ctx : Ctx} {ph : Phase}
    (h : s.consumer = .running ctx ph) :
    ∃ left, (s.advanceBy n).consumer = .running ⟨ctx.id, left⟩ ph ∧ left <:+ ctx.answers := by
  induction n generalizing s ctx with
  | zero => exact ⟨ctx.answers, h, List.suffix_rfl⟩
  | succ n ih =>
    have hadvance : s.advance.consumer = .running ⟨ctx.id, ctx.answers.tail⟩ ph := by
      simp [State.advance, dropAnswer, h]
    obtain ⟨left, hc, hleft⟩ := ih hadvance
    exact ⟨left, hc, hleft.trans (List.tail_suffix _)⟩

/-! ### The frames of the byte handlers -/

/-- Settles O36: column by column, from the inversion of the handlers. -/
theorem handlersKeepQueueStateAndType : Obligations.HandlersKeepQueueStateAndType := by
  intro i s t hi h
  obtain ⟨-, hstep⟩ := handlerStep_of_exec hi h
  obtain ⟨hq, hcfg, hproducer, hinputs, hresults⟩ := hstep.kept
  exact ⟨hq, hcfg, hproducer, hinputs, hresults, hstep.fbBase, hstep.st_eq, hstep.ty_eq⟩

/-- Settles O37: what FbRead gives depends on the storage and `fbBase`, and of the storage a handler
writes at most the byte at `wc`. -/
theorem handlersKeepFrameBufferAndCursors : Obligations.HandlersKeepFrameBufferAndCursors := by
  intro i s t hi h
  obtain ⟨-, hstep⟩ := handlerStep_of_exec hi h
  refine ⟨fun hp hs ht hb => ?_, fun a ha => ?_, hstep.sc_eq_of_payload, hstep.idx0_eq,
    hstep.idx1_eq, hstep.idx2_eq⟩
  · have hn : ¬ i.appends := Instr.not_appends hp hs ht hb
    exact ⟨State.fbByte_congr (hstep.fb_fault_eq hn).1 hstep.fbBase, hstep.wc_sc_eq hn⟩
  · simp only [State.fbByte, hstep.read_fb_eq ha, hstep.fbBase]

/-- Settles O38: the outputs a handler adds are calls and then events, one draw for each call. -/
theorem handlersKeepDecoderAndFault : Obligations.HandlersKeepDecoderAndFault := by
  intro i s t hi h
  obtain ⟨-, hstep⟩ := handlerStep_of_exec hi h
  obtain ⟨cs, ds, houtputs, -, -, hconsumer, hdrawn⟩ := hstep.outputs
  refine ⟨hstep.decoder_eq, fun hp hs ht hb => ?fault, ?outputs, fun ctx ph hrun => ?process⟩
  case fault => exact (hstep.fb_fault_eq (Instr.not_appends hp hs ht hb)).2
  case outputs =>
    refine ⟨cs.map .call ++ ds.map .diag, by simp [houtputs], ?_⟩
    have hcalls : callsOf (cs.map .call ++ ds.map .diag) = cs := by simp
    rw [hcalls]
    exact ⟨hconsumer, hdrawn⟩
  case process =>
    rw [hconsumer]
    exact State.advanceBy_consumer_running cs.length hrun

end Sys2Proof.Machine
end

section
/-! PROOFS. The storages (20_memory.md): no step from a state that meets the invariant accesses
storage that does not exist (R52, R53), the producer's writes (R62), the queue's order (R51), the
Frame Buffer as a storage (R53), and a WRITE that runs beside a PROCESS (R58). -/

namespace Sys2Proof.Machine

/-! ### Outcomes that are no fault of the model -/

/-- The operation accesses no storage that does not exist. -/
def NoFault (o : Out) : Prop := ∀ f, o ≠ .fault f

@[simp] theorem noFault_next (s : State) : NoFault (.next s) := fun _ => nofun

@[simp] theorem noFault_refused (r : Refusal) : NoFault (.refused r) := fun _ => nofun

theorem noFault_andThen {o : Out} {k : State → Out} (ho : NoFault o)
    (hk : ∀ s, o = .next s → NoFault (k s)) : NoFault (andThen o k) := by
  intro f h
  obtain h | ⟨s, hs, h⟩ := andThen_eq_fault.1 h
  · exact ho f h
  · exact hk s hs f h

theorem noFault_whenSelected {i : Instr} {s : State} {body : Out} (h : NoFault body) :
    NoFault (whenSelected i s body) :=
  fun f hf => h f (whenSelected_eq_fault.1 hf).2

theorem noFault_callThen {s : State} {k : Response → State → Out}
    (h : ∀ r, NoFault (k r s.advance)) : NoFault (callThen s k) := by
  intro f hf
  obtain ⟨r, -, hf⟩ := callThen_eq_fault.1 hf
  exact h r f hf

/-- R158: a pair that R31 excludes has no Step. -/
theorem byteStep_of_excluded {s : State} (hp : s.pairExists = false) (b : Byte) :
    byteStep b s = .refused .unreachablePair := by
  simp [byteStep, decode, show pairOk s.cfg.extTypes.length s.st s.ty = false from hp]

/-! ### The handlers, with the cursor inside the Frame Buffer -/

/-- R152, R153: the hex handlers access no storage. -/
theorem noFault_decodeCharacter (d : Byte) (call : Byte → Result Unit → Call)
    (reject : Byte → CollabError → Diag) (s : State) :
    NoFault (decodeCharacter d call reject s) := by
  unfold decodeCharacter
  cases feedResult d s with
  | pending => exact noFault_next _
  | invalid => exact noFault_next _
  | value v =>
    refine noFault_callThen fun r => ?_
    cases unitResult r <;> exact noFault_next _

section
variable {s : State} (hw : s.wc ≤ s.cfg.fbcap)
include hw

theorem noFault_fbAppend (b : Byte) (stored : State → State) : NoFault (fbAppend b stored s) :=
  fun _ h => Nat.not_lt.2 hw (fbAppend_eq_fault.1 h).1

theorem noFault_withFrameBytes {k : List Byte → Out} (h : NoFault (k s.frameBytes)) :
    NoFault (withFrameBytes s k) := by
  rwa [withFrameBytes_of_le hw]

/-- R180: the Dispatcher reads `fb[0..wc)` alone. -/
theorem noFault_dispatch : NoFault (dispatch s) := by
  unfold dispatch
  cases s.ty with
  | unknown => exact noFault_next s
  | application =>
    refine noFault_callThen fun r => ?_
    cases unitResult r with
    | ok => exact noFault_next _
    | err => exact noFault_callThen fun _ => noFault_next _
  | notification =>
    show NoFault (dispatchNotification s)
    unfold dispatchNotification
    refine noFault_withFrameBytes (s := s.setIdx2 s.sc) hw ?_
    refine noFault_callThen fun r => ?_
    cases unitResult r <;> exact noFault_next _
  | syscall =>
    refine noFault_withFrameBytes hw (noFault_callThen fun r => ?_)
    cases parseResult r with
    | ok => exact noFault_callThen fun _ => noFault_next _
    | err => exact noFault_next _
  | ext k =>
    show NoFault (dispatchExt k s)
    unfold dispatchExt
    cases extTarget s.cfg.extDispatch k with
    | none => exact noFault_refused _
    | some op => exact noFault_withFrameBytes hw (noFault_callThen fun _ => noFault_next _)

/-- R53: the handlers that store, and those that hand a frame over, stay below `FBCAP`; no other
accesses a storage. -/
theorem noFault_handler {i : Instr} (hi : i.isHandler = true) : NoFault (exec i s) := by
  cases i
  case write | process | reset => cases hi
  case etx => exact noFault_whenSelected (noFault_dispatch (s := s.setSt .wait) hw)
  case usInitApplication =>
    refine noFault_whenSelected (noFault_callThen fun r => ?_)
    cases unitResult r <;> exact noFault_next _
  case dataInit d =>
    refine noFault_whenSelected ?_
    by_cases ht : classify s.cfg d = .unknown <;> simp [ht]
  case dataPayload | dataNotificationSource | dataNotificationTitle | dataNotificationBody =>
    exact noFault_whenSelected (noFault_fbAppend hw _ _)
  case dataApplicationChecksum | dataApplicationStore =>
    exact noFault_whenSelected (noFault_decodeCharacter _ _ _ _)
  all_goals exact noFault_whenSelected (noFault_next _)

/-- R130: Step runs a handler, or is refused. -/
theorem noFault_byteStep (b : Byte) : NoFault (byteStep b s) := by
  cases hp : s.pairExists
  · rw [byteStep_of_excluded hp]
    exact noFault_refused _
  · rw [byteStep_eq_exec hp]
    exact noFault_handler hw (decodeByte_isHandler _ _ _)

end

/-! ### The agents, from a state that meets the invariant -/

theorem noFault_beginWrite (bytes : List Byte) (s : State) : NoFault (beginWrite bytes s) := by
  unfold beginWrite
  cases s.producer with
  | idle => cases s.halted <;> cases bytes <;> exact noFault_next _
  | test | enqueue => exact noFault_refused _

theorem noFault_beginProcess (ctx : Ctx) (s : State) : NoFault (beginProcess ctx s) := by
  unfold beginProcess
  cases s.consumer with
  | idle => exact noFault_next _
  | running => exact noFault_refused _

theorem noFault_execReset (s : State) : NoFault (execReset s) := by
  unfold execReset
  cases s.producer <;> cases s.consumer <;> simp

section
variable {s : State} (h : BlockInv s)
include h

/-- R52, R91: EnqueueByte pushes below capacity, and at capacity raises the overflow instead. -/
theorem noFault_producerAdvance : NoFault (producerAdvance s) := by
  cases hp : s.producer with
  | idle => rw [producerAdvance_idle hp]; exact noFault_next s
  | test b rest n k =>
    by_cases hf : s.fault = none
    · rw [producerAdvance_test hp hf]; exact noFault_next _
    · rw [producerAdvance_halted hp hf]; exact noFault_next _
  | enqueue b rest n k =>
    obtain hq | hq := h.queue.eq_or_lt
    · rw [producerAdvance_full hp hq]; exact noFault_next _
    · rw [producerAdvance_push hp hq]; exact noFault_next _

/-- R53, R95: the pop accesses no storage that does not exist, nor does the Step it feeds. -/
theorem noFault_consumerAdvance : NoFault (consumerAdvance s) := by
  cases hc : s.consumer with
  | idle => rw [consumerAdvance_idle hc]; exact noFault_next s
  | running ctx ph =>
    by_cases hf : s.fault = none
    case neg => rw [consumerAdvance_halted hc hf]; exact noFault_next _
    cases ph with
    | test => rw [consumerAdvance_test hc hf]; exact noFault_next _
    | pop =>
      cases hq : s.q with
      | nil => rw [consumerAdvance_empty hc hf hq]; exact noFault_next _
      | cons b rest =>
        rw [consumerAdvance_pop hc hf hq]
        have hcursor : (s.setQ rest).wc ≤ (s.setQ rest).cfg.fbcap := h.cursor
        exact noFault_andThen (noFault_byteStep hcursor b) fun _ _ => noFault_next _

end

theorem noFault_runProducer (n : Nat) {s : State} (h : BlockInv s) :
    NoFault (runProducer n s) := by
  induction n generalizing s with
  | zero => exact noFault_next s
  | succ n ih =>
    exact noFault_andThen (noFault_producerAdvance h) fun _ hu =>
      ih (producerAdvance_keeps_blockInv hu h)

theorem noFault_runConsumer (n : Nat) {s : State} (h : BlockInv s) :
    NoFault (runConsumer n s) := by
  induction n generalizing s with
  | zero => exact noFault_next s
  | succ n ih =>
    exact noFault_andThen (noFault_consumerAdvance h) fun _ hu =>
      ih (consumerAdvance_keeps_blockInv hu h)

theorem noFault_takeInput (x : Input) {s : State} (h : BlockInv s) : NoFault (takeInput x s) := by
  cases x with
  | write bytes =>
    exact noFault_andThen (noFault_beginWrite bytes s) fun _ hu =>
      noFault_runProducer _ (beginWrite_keeps_blockInv hu h)
  | process ctx =>
    exact noFault_andThen (noFault_beginProcess ctx s) fun _ hu =>
      noFault_runConsumer _ (beginProcess_keeps_blockInv hu h)
  | reset => exact noFault_execReset s
  | writeBegin bytes => exact noFault_beginWrite bytes s
  | processBegin ctx => exact noFault_beginProcess ctx s
  | producer => exact noFault_producerAdvance h
  | consumer => exact noFault_consumerAdvance h

/-! ### A step -/

/-- With no input waiting one agent moves, as if an input had asked for it. -/
theorem goOn_eq_takeInput (s : State) :
    ∃ (x : Input) (n : Nat), goOn s = takeInput x (s.setDrawn n) := by
  by_cases hp : s.producer = .idle
  · exact ⟨.consumer, s.drawn, goOn_of_producer_idle hp⟩
  by_cases hc : s.consumer = .idle
  · exact ⟨.producer, s.drawn, goOn_of_consumer_idle hp hc⟩
  rw [goOn_of_both hp hc]
  cases Config.freeTurn s.drawn
  · exact ⟨.consumer, s.drawn + 1, rfl⟩
  · exact ⟨.producer, s.drawn + 1, rfl⟩

/-- A step is what some input does, on a state that differs in its inputs and its count of draws. -/
theorem step_eq_takeInput {s : State} (hp : s.pairExists = true) :
    ∃ (x : Input) (ins : List Input) (n : Nat),
      step s = takeInput x ((s.setInputs ins).setDrawn n) := by
  cases hi : s.inputs with
  | cons x rest => exact ⟨x, rest, s.drawn, step_of_input hp hi⟩
  | nil =>
    obtain ⟨x, n, hgo⟩ := goOn_eq_takeInput s
    exact ⟨x, s.inputs, n, (step_of_no_input hp hi).trans hgo⟩

/-- Settles O42: under the invariant the cursor is at most `FBCAP` and the queue at most full, so no
atomic step accesses storage that does not exist; the invariant is carried through the runs inside a
whole WRITE or PROCESS. -/
theorem noStepAccessesAbsentStorage : Obligations.NoStepAccessesAbsentStorage := by
  intro s f h
  obtain ⟨x, ins, n, hstep⟩ := step_eq_takeInput h.pair
  rw [hstep]
  exact noFault_takeInput x ((h.setInputs ins).setDrawn n) f

/-! ### The producer's writes -/

theorem finishWrite_eq (r : PortResult) (s : State) :
    finishWrite r s = { s with producer := .idle, results := s.results ++ [r] } := rfl

/-- R90: after a push the WRITE stands at its next byte or returns. -/
theorem nextByte_eq (rest : List Byte) (n k : Nat) (s : State) :
    nextByte rest n k s = { s with
      producer := (nextByte rest n k s).producer, results := (nextByte rest n k s).results } := by
  cases rest <;> rfl

@[simp] theorem nextByte_q (rest : List Byte) (n k : Nat) (s : State) :
    (nextByte rest n k s).q = s.q := by cases rest <;> rfl

@[simp] theorem nextByte_fault (rest : List Byte) (n k : Nat) (s : State) :
    (nextByte rest n k s).fault = s.fault := by cases rest <;> rfl

/-- R207: a recorded fault stays. -/
theorem raiseFatal_of_some {s : State} {g : FatalFault} (h : s.fault = some g) (f : FatalFault) :
    raiseFatal f s = s := by
  simp [raiseFatal, h]

/-- Settles O39: the overflow raises the fault where none is recorded, the push writes the queue, and
every other step of the producer writes its transaction alone. -/
theorem producerTouchesOnlyQueueAndFault : Obligations.ProducerTouchesOnlyQueueAndFault := by
  intro s t h
  obtain ⟨-, rfl⟩ | ⟨b, rest, n, k, -, ⟨-, rfl⟩ | ⟨-, rfl⟩⟩ |
    ⟨b, rest, n, k, hp, ⟨-, rfl⟩ | ⟨-, rfl⟩⟩ := producerAdvance_eq_next h
  case inr.inr.inl =>
    refine ⟨?_, .inl ?_, fun f hf => by rwa [raiseFatal_of_some hf]⟩ <;>
      simp only [raiseFatal_eq, finishWrite_eq]
  case inr.inr.inr =>
    refine ⟨?_, .inr ⟨b, rest, n, k, hp, nextByte_q ..⟩, fun f hf => by simpa using hf⟩
    rw [nextByte_eq]
    rfl
  all_goals exact ⟨rfl, .inl rfl, fun _ hf => hf⟩

/-! ### The queue's order -/

theorem beginWrite_keeps_q {bytes : List Byte} {s t : State}
    (h : beginWrite bytes s = .next t) : t.q = s.q := by
  obtain ⟨-, ⟨-, rfl⟩ | ⟨-, -, rfl⟩ | ⟨-, b, rest, -, rfl⟩⟩ := beginWrite_eq_next h <;> rfl

theorem beginProcess_keeps_q {ctx : Ctx} {s t : State}
    (h : beginProcess ctx s = .next t) : t.q = s.q := by
  obtain ⟨-, rfl⟩ := beginProcess_eq_next h
  rfl

/-- R51, R62: the producer puts bytes at the tail. -/
theorem producerAdvance_appends_q {s t : State} (h : producerAdvance s = .next t) :
    s.q <+: t.q := by
  obtain ⟨-, hq | ⟨b, -, -, -, -, hq⟩, -⟩ := producerTouchesOnlyQueueAndFault s t h
  · rw [hq]
  · rw [hq]; exact List.prefix_append _ _

@[simp] theorem nextIteration_q (s : State) : (nextIteration s).q = s.q := by
  unfold nextIteration
  split <;> rfl

/-- R51, R95: the consumer takes bytes from the head. -/
theorem consumerAdvance_pops_q {s t : State} (h : consumerAdvance s = .next t) :
    t.q <:+ s.q := by
  obtain ⟨-, rfl⟩ | ⟨ctx, ph, -, -, rfl⟩ | ⟨ctx, -, -, rfl⟩ |
    ⟨ctx, -, -, ⟨-, rfl⟩ | ⟨b, rest, u, hq, -, hu, rfl⟩⟩ := consumerAdvance_eq_next h
  case inr.inr.inr.inr =>
    obtain ⟨hkept, -⟩ := hu.kept
    rw [nextIteration_q, hkept, hq]
    exact List.suffix_cons b rest
  all_goals exact List.suffix_rfl

theorem runProducer_appends_q {n : Nat} {s t : State} (h : runProducer n s = .next t) :
    s.q <+: t.q :=
  runProducer_rel (R := fun s t => s.q <+: t.q) (fun _ => List.prefix_rfl)
    (fun hst htu => hst.trans htu) producerAdvance_appends_q h

theorem runConsumer_pops_q {n : Nat} {s t : State} (h : runConsumer n s = .next t) :
    t.q <:+ s.q :=
  runConsumer_rel (R := fun s t => t.q <:+ s.q) (fun _ => List.suffix_rfl)
    (fun hst htu => htu.trans hst) consumerAdvance_pops_q h

/-- R51, R58: an input puts bytes at the queue's tail or takes bytes from its head. -/
theorem takeInput_appends_or_pops_q {x : Input} {s t : State} (h : takeInput x s = .next t) :
    s.q <+: t.q ∨ t.q <:+ s.q := by
  cases x with
  | write bytes =>
    obtain ⟨u, hu, h⟩ := andThen_eq_next.1 h
    exact .inl (beginWrite_keeps_q hu ▸ runProducer_appends_q h)
  | process ctx =>
    obtain ⟨u, hu, h⟩ := andThen_eq_next.1 h
    exact .inr (beginProcess_keeps_q hu ▸ runConsumer_pops_q h)
  | reset =>
    obtain ⟨-, -, rfl⟩ := execReset_eq_next h
    exact .inr List.nil_suffix
  | writeBegin bytes => exact .inl (beginWrite_keeps_q h ▸ List.prefix_rfl)
  | processBegin ctx => exact .inl (beginProcess_keeps_q h ▸ List.prefix_rfl)
  | producer => exact .inl (producerAdvance_appends_q h)
  | consumer => exact .inr (consumerAdvance_pops_q h)

/-- A step that goes on is made from a pair that exists (R158). -/
theorem pairExists_of_step {s t : State} (h : step s = .next t) : s.pairExists = true := by
  cases hp : s.pairExists
  · rw [step_of_excluded hp] at h
    cases h
  · rfl

/-- Settles O48: a whole WRITE only puts bytes at the tail, a whole PROCESS only takes bytes from
the head, and a step is one of them, a part of one, or a RESET. -/
theorem queueIsFirstInFirstOut : Obligations.QueueIsFirstInFirstOut := by
  intro s t h
  obtain ⟨x, ins, n, hstep⟩ := step_eq_takeInput (pairExists_of_step h)
  obtain ⟨pushed, hq⟩ | ⟨popped, hq⟩ := takeInput_appends_or_pops_q (hstep.symm.trans h)
  · exact .inl ⟨pushed, hq.symm⟩
  · exact .inr ⟨popped, hq.symm⟩

/-! ### The Frame Buffer -/

/-- Settles O55: what a write does to the storage, read through FbRead. -/
theorem frameBufferReadsLastWrite : Obligations.FrameBufferReadsLastWrite := by
  intro s t i b h
  obtain ⟨-, rfl⟩ := fbWrite_eq_next.1 h
  exact ⟨s.fbByte_write_same i b, fun j hj => s.fbByte_write_other b hj, Memory.wf_write, rfl⟩

/-! ### A WRITE beside a PROCESS -/

/-- R83: a data byte selects the data row of the frame state. -/
theorem decodeByte_of_isData {b : Byte} (hb : isData b = true) (st : FrameState) (ty : MsgType) :
    decodeByte st ty b = decodeData st b := by
  unfold isData at hb
  unfold decodeByte
  cases hc : byteClass b <;> simp [hc] at hb ⊢

/-- R145: in Wait a Step on a data byte leaves the state as it is. -/
theorem byteStep_data_of_wait {s : State} {b : Byte} (hst : s.st = .wait)
    (hp : s.pairExists = true) (hc : s.consuming = true) (hb : isData b = true) :
    byteStep b s = .next s := by
  have hsel := selects_decodeByte hp hc b
  rw [byteStep_eq_exec hp]
  rw [decodeByte_of_isData hb, hst] at hsel ⊢
  exact whenSelected_of_selects hsel

/-- `s` with its queue, its transactions in progress, its results and its inputs replaced: all that a
PROCESS of data bytes in Wait and a WRITE beside it can move. -/
def State.withPorts (s : State) (q : List Byte) (producer : Producer) (consumer : Consumer)
    (results : List PortResult) (inputs : List Input) : State :=
  { s with
    q := q, producer := producer, consumer := consumer, results := results, inputs := inputs }

section
variable {s : State} {q : List Byte} {p : Producer} {c : Consumer} {ctx : Ctx}
  {rs : List PortResult} {ins : List Input} {b : Byte}

/-- A run takes the next input and goes on. -/
theorem core_run_withPorts {t : State} {n : Nat} {x : Input} (hp : s.pairExists = true)
    (h : takeInput x (s.withPorts q p c rs ins) = .next t) :
    Sys2Proof.core.run (n + 1) (s.withPorts q p c rs (x :: ins)) = Sys2Proof.core.run n t := by
  have hstep : step (s.withPorts q p c rs (x :: ins)) = .next t := by
    rw [step_of_input (s := s.withPorts q p c rs (x :: ins)) hp rfl]
    exact h
  exact (core_run_succ n _).trans (congrArg (andThen · (Sys2Proof.core.run n)) hstep)

theorem takeInput_processBegin :
    takeInput (.processBegin ctx) (s.withPorts q p .idle rs ins) =
      .next (s.withPorts q p (.running ctx .test) rs ins) := rfl

theorem takeInput_consumer_idle :
    takeInput .consumer (s.withPorts q p .idle rs ins) = .next (s.withPorts q p .idle rs ins) := rfl

/-- R90: the push of the last byte ends the WRITE. -/
theorem takeInput_producer_lastPush (hcap : 1 ≤ s.cfg.qcap) :
    takeInput .producer (s.withPorts [] (.enqueue b [] 1 0) c rs ins) =
      .next (s.withPorts [b] .idle c (rs ++ [.writeOk]) ins) :=
  producerAdvance_push (s := s.withPorts [] (.enqueue b [] 1 0) c rs ins) rfl hcap

variable (hf : s.fault = none)
include hf

theorem takeInput_consumer_test :
    takeInput .consumer (s.withPorts q p (.running ctx .test) rs ins) =
      .next (s.withPorts q p (.running ctx .pop) rs ins) :=
  consumerAdvance_test (s := s.withPorts q p (.running ctx .test) rs ins) rfl hf

/-- R145: a data byte popped in Wait is discarded. -/
theorem takeInput_consumer_pop (hst : s.st = .wait) (hp : s.pairExists = true)
    (hb : isData b = true) :
    takeInput .consumer (s.withPorts (b :: q) p (.running ctx .pop) rs ins) =
      .next (s.withPorts q p (.running ctx .test) rs ins) := by
  have hstep : byteStep b (s.withPorts q p (.running ctx .pop) rs ins) = .next _ :=
    byteStep_data_of_wait hst hp rfl hb
  have hpop : consumerAdvance (s.withPorts (b :: q) p (.running ctx .pop) rs ins) = _ :=
    consumerAdvance_pop rfl hf rfl
  exact hpop.trans (congrArg (andThen · _) hstep)

/-- R94: the pop of an empty queue ends the PROCESS. -/
theorem takeInput_consumer_empty :
    takeInput .consumer (s.withPorts [] p (.running ctx .pop) rs ins) =
      .next (s.withPorts [] p .idle (rs ++ [.processOk]) ins) :=
  consumerAdvance_empty (s := s.withPorts [] p (.running ctx .pop) rs ins) rfl hf rfl

theorem takeInput_writeBegin :
    takeInput (.writeBegin [b]) (s.withPorts q .idle c rs ins) =
      .next (s.withPorts q (.test b [] 1 0) c rs ins) :=
  beginWrite_cons (s := s.withPorts q .idle c rs ins) rfl hf b []

theorem takeInput_producer_test :
    takeInput .producer (s.withPorts q (.test b [] 1 0) c rs ins) =
      .next (s.withPorts q (.enqueue b [] 1 0) c rs ins) :=
  producerAdvance_test (s := s.withPorts q (.test b [] 1 0) c rs ins) rfl hf

/-- The inputs that both orders begin with leave the PROCESS before its last pop, the queue empty and
the WRITE before its first fault test. -/
theorem core_run_untilWriteBegun (hst : s.st = .wait) (hp : s.pairExists = true) {a : Byte}
    (ha : isData a = true) (n : Nat) :
    Sys2Proof.core.run (n + 5) (s.withPorts [a] .idle .idle rs
        (.processBegin ctx :: .consumer :: .consumer :: .consumer :: .writeBegin [b] :: ins)) =
      Sys2Proof.core.run n (s.withPorts [] (.test b [] 1 0) (.running ctx .pop) rs ins) := by
  rw [core_run_withPorts hp takeInput_processBegin,
    core_run_withPorts hp (takeInput_consumer_test hf),
    core_run_withPorts hp (takeInput_consumer_pop hf hst hp ha),
    core_run_withPorts hp (takeInput_consumer_test hf),
    core_run_withPorts hp (takeInput_writeBegin hf)]

end

/-- Settles O59: each clause follows its inputs one by one; in the first the push comes before the
PROCESS's last pop, in the second after it. -/
theorem byteWrittenDuringProcessMayGoEitherWay :
    Obligations.ByteWrittenDuringProcessMayGoEitherWay := by
  intro s ctx a b hst hp hc hpr hf hq ha hb hcap
  have hports : ∀ v rs ins, { s with q := v, results := rs, inputs := ins } =
      s.withPorts v .idle .idle rs ins := by
    intro v rs ins
    rw [← hpr, ← hc, State.withPorts]
  have hidle : ∀ ins, { s with inputs := ins } = s.withPorts [a] .idle .idle s.results ins := by
    intro ins
    rw [← hports, ← hq]
  refine ⟨⟨_, ?pushedBefore, rfl⟩, ⟨_, ?pushedAfter, rfl⟩⟩
  case pushedBefore =>
    rw [hidle, hports, core_run_untilWriteBegun hf hst hp ha,
      core_run_withPorts hp (takeInput_producer_test hf),
      core_run_withPorts hp (takeInput_producer_lastPush hcap),
      core_run_withPorts hp (takeInput_consumer_pop hf hst hp hb),
      core_run_withPorts hp (takeInput_consumer_test hf),
      core_run_withPorts hp (takeInput_consumer_empty hf), List.append_assoc]
    exact core_run_zero _
  case pushedAfter =>
    rw [hidle, hports, core_run_untilWriteBegun hf hst hp ha,
      core_run_withPorts hp (takeInput_consumer_empty hf),
      core_run_withPorts hp (takeInput_producer_test hf),
      core_run_withPorts hp (takeInput_producer_lastPush hcap),
      core_run_withPorts hp takeInput_consumer_idle,
      core_run_withPorts hp takeInput_consumer_idle, List.append_assoc]
    exact core_run_zero _

end Sys2Proof.Machine
end

section
/-! PROOFS. The encoding (30_encoding.md): the rows of the opcode table and the decoder select the
same operation (R70, R71, R83), the selectors and the hex digits (R73, R79, R80), every step of a
machine whose environment keeps its contract goes on (R70), and the hex pairs of an Application frame
are sunk in wire order (R75). -/

namespace Sys2Proof.Machine

/-! ### The operation map (R83) -/

/-- R71, R83: the operation that a byte selects has that byte as its encoding. -/
theorem encode_decodeByte (st : FrameState) (ty : MsgType) (b : Byte) :
    encode (decodeByte st ty b) = [b] := by
  by_cases hstx : b = 0x02#8
  · subst hstx; rfl
  by_cases hetx : b = 0x03#8
  · subst hetx; cases st <;> rfl
  by_cases hus : b = 0x1F#8
  · subst hus
    cases st
    case init => cases ty <;> rfl
    all_goals rfl
  · have hdata : isData b = true := by simp [isData, byteClass, hstx, hetx, hus]
    rw [decodeByte_of_isData hdata]
    cases st <;> rfl

/-- R83: a byte handler is encoded in one byte. -/
theorem encode_of_isHandler {i : Instr} (hi : i.isHandler = true) : ∃ b, encode i = [b] := by
  cases i
  case write | process | reset => cases hi
  all_goals exact ⟨_, rfl⟩

/-- R83, R72: the row of the opcode table that matches a byte under `st` and `ty` is the one the
decoder selects, whether or not the pair exists. -/
theorem eq_decodeByte_of_guard {i : Instr} {st : FrameState} {ty : MsgType} {b : Byte}
    (hw : i.wf = true) (hg : i.guard st ty = true) (he : encode i = [b]) :
    i = decodeByte st ty b := by
  cases i
  case write | process | reset => cases hg
  case stx => cases he; rfl
  case etx =>
    cases he
    cases st
    case wait => cases hg
    all_goals rfl
  case usInitExt =>
    cases he
    cases ty <;> simp [Instr.guard] at hg
    rw [hg]; rfl
  case dataWait | dataInit | dataPayload | dataApplicationChecksum | dataApplicationStore
      | dataNotificationSource | dataNotificationTitle | dataNotificationBody =>
    cases he
    rw [decodeByte_of_isData hw, of_decide_eq_true hg]
    rfl
  case usInitUnknown | usInitApplication | usInitNotification | usInitSyscall =>
    cases he
    obtain ⟨rfl, rfl⟩ := of_decide_eq_true hg
    rfl
  all_goals
    cases he
    rw [of_decide_eq_true hg]
    rfl

/-- R71, R83: exactly one well-formed row matches a byte under `st` and `ty`. -/
theorem row_iff_decodeByte (st : FrameState) (ty : MsgType) (b : Byte) (i : Instr) :
    (i.wf = true ∧ i.guard st ty = true ∧ encode i = [b]) ↔ i = decodeByte st ty b := by
  constructor
  · rintro ⟨hw, hg, he⟩
    exact eq_decodeByte_of_guard hw hg he
  · rintro rfl
    obtain ⟨hg, hw⟩ := decodeByte_guard_wf st ty b
    exact ⟨hw, hg, encode_decodeByte st ty b⟩

theorem decode_cons_of_pairOk {nExt : Nat} {st : FrameState} {ty : MsgType}
    (hp : pairOk nExt st ty = true) (b : Byte) (rest : List Byte) :
    decode nExt st ty (b :: rest) = .ok (decodeByte st ty b, rest) := by
  simp [decode, hp]

theorem decode_cons_of_excluded {nExt : Nat} {st : FrameState} {ty : MsgType}
    (hp : pairOk nExt st ty = false) (b : Byte) (rest : List Byte) :
    decode nExt st ty (b :: rest) = .error .unreachablePair := by
  simp [decode, hp]

/-- R23: an extension type that the configuration does not have makes no pair. -/
theorem pairOk_ext_eq_false {nExt k : Nat} (hk : nExt ≤ k) (st : FrameState) :
    pairOk nExt st (.ext k) = false := by
  simp [pairOk, MsgType.known, Nat.not_lt.2 hk]

/-- Settles O2: the handler's one byte selects the handler, whose row matches. -/
theorem decodeOfEncodeIsTheOperation : Obligations.DecodeOfEncodeIsTheOperation := by
  intro nExt i st ty rest hi hw hp hg
  obtain ⟨b, hb⟩ := encode_of_isHandler hi
  have hsel : i = decodeByte st ty b := eq_decodeByte_of_guard hw hg hb
  rw [hb, hsel]
  exact decode_cons_of_pairOk hp b rest

/-- Settles O3: which row matches does not depend on whether the pair exists; what the decoder
answers does. -/
theorem everyByteSelectsExactlyOneOperation : Obligations.EveryByteSelectsExactlyOneOperation := by
  intro nExt st ty b
  refine ⟨row_iff_decodeByte st ty b, fun hp => decode_cons_of_pairOk hp b,
    fun hp => decode_cons_of_excluded hp b, ?_⟩
  rintro k rfl hk
  exact pairOk_ext_eq_false hk st

/-- Settles O1: each byte is classified by its value, and the class, `st` and `ty` give the row. -/
theorem wordsDecodeToTheirRows : Obligations.WordsDecodeToTheirRows := by
  unfold Obligations.WordsDecodeToTheirRows
  decide

/-! ### The selectors and the hex digits -/

/-- Settles O21: the canonical table has three entries, looked up in order. -/
theorem canonicalTypeSelectors : Obligations.CanonicalTypeSelectors := by
  intro b
  simp only [classify, Config.canonical, typeLookup, eq_comm]

/-- Settles O22: each range is one branch of `hexval`, and the ranges exclude each other. -/
theorem hexDigitsAndTheirValues : Obligations.HexDigitsAndTheirValues := by
  intro c
  unfold hexval
  refine ⟨fun hdigit => ?digit, fun hupper => ?upper, fun hlower => ?lower,
    fun hd hu hl => ?other⟩
  case digit =>
    rw [if_pos hdigit]
    exact ⟨_, rfl, by rw [BitVec.toNat_ofNat]; omega⟩
  case upper =>
    rw [if_neg (by omega), if_pos hupper]
    exact ⟨_, rfl, by rw [BitVec.toNat_ofNat]; omega⟩
  case lower =>
    rw [if_neg (by omega), if_neg (by omega), if_pos hlower]
    exact ⟨_, rfl, by rw [BitVec.toNat_ofNat]; omega⟩
  case other => rw [if_neg hd, if_neg hu, if_neg hl]

/-- R80: a pair is the first digit's nibble followed by the second's. -/
theorem hexPair_of_hexval {c0 c1 : Byte} {h l : BitVec 4} (h0 : hexval c0 = some h)
    (h1 : hexval c1 = some l) : hexPair c0 c1 = some (h ++ l) := by
  have happend : h ++ l = (h.setWidth 8 <<< 4) ||| l.setWidth 8 := by
    rw [BitVec.append_def, BitVec.shiftLeftZeroExtend_eq]
    simp
  rw [happend]
  simp only [hexPair, h0, h1]

theorem hexPair_of_hexval_none {c0 c1 : Byte} (h : hexval c0 = none ∨ hexval c1 = none) :
    hexPair c0 c1 = none := by
  unfold hexPair
  split
  · rename_i h0 h1
    simp [h0, h1] at h
  · rfl
  · rfl

theorem toNat_append_nibbles (h l : BitVec 4) : (h ++ l).toNat = 16 * h.toNat + l.toNat := by
  rw [BitVec.toNat_append, ← Nat.shiftLeft_add_eq_or_of_lt l.isLt, Nat.shiftLeft_eq, Nat.mul_comm]

/-- Settles O23: the pair is the two nibbles appended, so its value and its halves are those of an
append. -/
theorem hexPairIsHighNibbleFirst : Obligations.HexPairIsHighNibbleFirst := by
  intro c0 c1
  refine ⟨fun h l h0 h1 => ?_, hexPair_of_hexval_none⟩
  exact ⟨h ++ l, hexPair_of_hexval h0 h1, toNat_append_nibbles h l,
    BitVec.extractLsb'_append_eq_left, BitVec.extractLsb'_append_eq_right⟩

/-! ### Outcomes that are no refusal -/

/-- The operation is not declined. -/
def NoRefusal (o : Out) : Prop := ∀ r, o ≠ .refused r

@[simp] theorem noRefusal_next (s : State) : NoRefusal (.next s) := fun _ => nofun

@[simp] theorem noRefusal_fault (f : Fault) : NoRefusal (.fault f) := fun _ => nofun

theorem exists_next_of_noFault_noRefusal {o : Out} (hf : NoFault o) (hr : NoRefusal o) :
    ∃ t, o = .next t := by
  cases o with
  | next t => exact ⟨t, rfl⟩
  | fault f => exact absurd rfl (hf f)
  | refused r => exact absurd rfl (hr r)

theorem noRefusal_andThen {o : Out} {k : State → Out} (ho : NoRefusal o)
    (hk : ∀ s, o = .next s → NoRefusal (k s)) : NoRefusal (andThen o k) := by
  cases o with
  | next s => exact hk s rfl
  | fault f => exact noRefusal_fault f
  | refused r => exact absurd rfl (ho r)

theorem noRefusal_whenSelected {i : Instr} {s : State} {body : Out} (hs : s.selects i = true)
    (h : NoRefusal body) : NoRefusal (whenSelected i s body) := by
  rwa [whenSelected_of_selects hs]

theorem noRefusal_qPush (b : Byte) (s : State) : NoRefusal (qPush b s) := by
  unfold qPush
  split
  · exact noRefusal_next _
  · exact noRefusal_fault _

theorem noRefusal_fbWrite (i : Nat) (b : Byte) (s : State) : NoRefusal (fbWrite i b s) := by
  unfold fbWrite
  split
  · exact noRefusal_next _
  · exact noRefusal_fault _

theorem noRefusal_fbAppend (b : Byte) (stored : State → State) (s : State) :
    NoRefusal (fbAppend b stored s) := by
  unfold fbAppend
  split
  · exact noRefusal_next _
  · exact noRefusal_andThen (noRefusal_fbWrite _ _ _) fun _ _ => noRefusal_next _

theorem noRefusal_withFrameBytes {s : State} {k : List Byte → Out}
    (h : NoRefusal (k s.frameBytes)) : NoRefusal (withFrameBytes s k) := by
  unfold withFrameBytes
  split
  · exact h
  · exact noRefusal_fault _

/-! ### Collaborators that keep their contract (R237) -/

theorem consumerAnswering_iff {s : State} {ctx : Ctx} {ph : Phase}
    (hc : s.consumer = .running ctx ph) : consumerAnswering s ↔ Ctx.answering ctx := by
  unfold consumerAnswering
  rw [hc]

theorem consumerAnswering_of_idle {s : State} (hc : s.consumer = .idle) : consumerAnswering s := by
  unfold consumerAnswering
  rw [hc]
  trivial

/-- A collaborator that keeps its contract answers, from its context or with a free value. -/
theorem State.exists_answer {s : State} (h : consumerAnswering s) : ∃ r, s.answer = some r := by
  cases hc : s.consumer with
  | idle => exact ⟨Config.freeResponse s.drawn, by simp [State.answer, answersLeft, hc]⟩
  | running ctx ph =>
    have hctx : Ctx.answering ctx := (consumerAnswering_iff hc).1 h
    cases ha : ctx.answers with
    | nil => exact ⟨Config.freeResponse s.drawn, by simp [State.answer, answersLeft, hc, ha]⟩
    | cons a rest =>
      cases a with
      | respond r => exact ⟨r, by simp [State.answer, answersLeft, hc, ha]⟩
      | reenter => exact absurd rfl (hctx .reenter (by simp [ha]))

/-- The answers left after a draw keep the contract. -/
theorem consumerAnswering_advance {s : State} (h : consumerAnswering s) :
    consumerAnswering s.advance := by
  cases hc : s.consumer with
  | idle => exact consumerAnswering_of_idle (by simp [State.advance, dropAnswer, hc])
  | running ctx ph =>
    have hadvance : s.advance.consumer = .running ⟨ctx.id, ctx.answers.tail⟩ ph := by
      simp [State.advance, dropAnswer, hc]
    have hctx : Ctx.answering ctx := (consumerAnswering_iff hc).1 h
    exact (consumerAnswering_iff hadvance).2 fun a ha => hctx a (List.mem_of_mem_tail ha)

theorem noRefusal_callThen {s : State} {k : Response → State → Out} (hs : consumerAnswering s)
    (h : ∀ r, NoRefusal (k r s.advance)) : NoRefusal (callThen s k) := by
  obtain ⟨r, hr⟩ := State.exists_answer hs
  rw [callThen_of_answer hr]
  exact h r

theorem consumerAnswering_congr {s t : State} (hc : t.consumer = s.consumer)
    (h : consumerAnswering s) : consumerAnswering t := by
  unfold consumerAnswering at h ⊢
  rwa [hc]

/-- R186: of the answers a handler uses up at most two. -/
theorem HandlerStep.consumerAnswering {i : Instr} {s t : State} (hstep : HandlerStep s i t)
    (h : consumerAnswering s) : consumerAnswering t := by
  obtain hc | hc | hc := hstep.consumer
  · exact consumerAnswering_congr hc h
  · exact consumerAnswering_congr hc (consumerAnswering_advance h)
  · exact consumerAnswering_congr hc (consumerAnswering_advance (consumerAnswering_advance h))

theorem consumerAnswering_nextIteration {s : State} (h : consumerAnswering s) :
    consumerAnswering (nextIteration s) := by
  unfold nextIteration
  cases hc : s.consumer with
  | idle => exact h
  | running ctx ph =>
    exact (consumerAnswering_iff (s := s.setConsumer (.running ctx .test)) rfl).2
      ((consumerAnswering_iff hc).1 h)

theorem consumerAdvance_keeps_answering {s t : State} (hstep : consumerAdvance s = .next t)
    (h : consumerAnswering s) : consumerAnswering t := by
  obtain ⟨-, rfl⟩ | ⟨ctx, ph, -, -, rfl⟩ | ⟨ctx, hc, -, rfl⟩ |
    ⟨ctx, -, -, ⟨-, rfl⟩ | ⟨b, rest, u, -, -, hu, rfl⟩⟩ := consumerAdvance_eq_next hstep
  · exact h
  · exact trivial
  · exact (consumerAnswering_iff (s := s.setConsumer (.running ctx .pop)) rfl).2
      ((consumerAnswering_iff hc).1 h)
  · exact trivial
  · exact consumerAnswering_nextIteration (hu.consumerAnswering h)

/-! ### The handlers, with collaborators that answer -/

/-- R152, R153: a hex handler makes one call at most. -/
theorem noRefusal_decodeCharacter {s : State} (ha : consumerAnswering s) (d : Byte)
    (call : Byte → Result Unit → Call) (reject : Byte → CollabError → Diag) :
    NoRefusal (decodeCharacter d call reject s) := by
  have hfeed : consumerAnswering (feedState d s) := by
    rw [feedState_eq]
    exact ha
  unfold decodeCharacter
  cases feedResult d s with
  | pending => exact noRefusal_next _
  | invalid => exact noRefusal_next _
  | value v =>
    refine noRefusal_callThen hfeed fun r => ?_
    cases unitResult r <;> exact noRefusal_next _

/-- R180: the Dispatcher makes two calls at most, and an extension's frame has its target (R185). -/
theorem noRefusal_dispatch {s : State} (ha : consumerAnswering s)
    (hext : ∀ k, s.ty = .ext k → (extTarget s.cfg.extDispatch k).isSome = true) :
    NoRefusal (dispatch s) := by
  have hagain : ∀ c, consumerAnswering (s.advance.addCall c) :=
    fun _ => consumerAnswering_advance ha
  unfold dispatch
  cases ht : s.ty with
  | unknown => exact noRefusal_next s
  | application =>
    refine noRefusal_callThen ha fun r => ?_
    cases unitResult r with
    | ok => exact noRefusal_next _
    | err => exact noRefusal_callThen (hagain _) fun _ => noRefusal_next _
  | notification =>
    show NoRefusal (dispatchNotification s)
    unfold dispatchNotification
    refine noRefusal_withFrameBytes (s := s.setIdx2 s.sc) ?_
    refine noRefusal_callThen (s := s.setIdx2 s.sc) ha fun r => ?_
    cases unitResult r <;> exact noRefusal_next _
  | syscall =>
    refine noRefusal_withFrameBytes (noRefusal_callThen ha fun r => ?_)
    cases parseResult r with
    | ok => exact noRefusal_callThen (hagain _) fun _ => noRefusal_next _
    | err => exact noRefusal_next _
  | ext k =>
    obtain ⟨op, hop⟩ := Option.isSome_iff_exists.1 (hext k ht)
    show NoRefusal (dispatchExt k s)
    simp only [dispatchExt, hop]
    exact noRefusal_withFrameBytes (noRefusal_callThen ha fun _ => noRefusal_next _)

/-- A selected handler goes on where the collaborators answer and each extension has its target. -/
theorem noRefusal_handler {i : Instr} {s : State} (hs : s.selects i = true)
    (ha : consumerAnswering s)
    (hext : ∀ k, s.ty = .ext k → (extTarget s.cfg.extDispatch k).isSome = true) :
    NoRefusal (exec i s) := by
  cases i
  case write | process | reset =>
    obtain ⟨-, -, hg, -⟩ := State.selects_iff.1 hs
    cases hg
  case etx => exact noRefusal_whenSelected hs (noRefusal_dispatch (s := s.setSt .wait) ha hext)
  case usInitApplication =>
    refine noRefusal_whenSelected hs (noRefusal_callThen ha fun r => ?_)
    cases unitResult r <;> exact noRefusal_next _
  case dataInit d =>
    refine noRefusal_whenSelected hs ?_
    by_cases ht : classify s.cfg d = .unknown <;> simp [ht]
  case dataPayload | dataNotificationSource | dataNotificationTitle | dataNotificationBody =>
    exact noRefusal_whenSelected hs (noRefusal_fbAppend _ _ _)
  case dataApplicationChecksum | dataApplicationStore =>
    exact noRefusal_whenSelected hs (noRefusal_decodeCharacter ha _ _ _)
  all_goals exact noRefusal_whenSelected hs (noRefusal_next _)

/-- R185, R23: a frame's extension type is one of the configuration, which names its call. -/
theorem extTarget_of_dispatchesAll {s : State} (hp : s.pairExists = true)
    (hd : dispatchesAll s.cfg) (k : Nat) (ht : s.ty = .ext k) :
    (extTarget s.cfg.extDispatch k).isSome = true := by
  have hknown := State.known_of_pairExists hp
  rw [ht] at hknown
  exact hd k (of_decide_eq_true hknown)

/-- R70: in a running PROCESS every byte has a Step that goes on. -/
theorem noRefusal_byteStep {s : State} (hp : s.pairExists = true) (hc : s.consuming = true)
    (ha : consumerAnswering s) (hd : dispatchesAll s.cfg) (b : Byte) :
    NoRefusal (byteStep b s) := by
  rw [byteStep_eq_exec hp]
  exact noRefusal_handler (selects_decodeByte hp hc b) ha (extTarget_of_dispatchesAll hp hd)

/-! ### The agents, with an environment that keeps its contract -/

theorem noRefusal_beginWrite {s : State} (hp : s.producer = .idle) (bytes : List Byte) :
    NoRefusal (beginWrite bytes s) := by
  by_cases hf : s.fault = none
  case neg => rw [beginWrite_halted hp hf]; exact noRefusal_next _
  cases bytes with
  | nil => rw [beginWrite_nil hp hf]; exact noRefusal_next _
  | cons b rest => rw [beginWrite_cons hp hf]; exact noRefusal_next _

theorem noRefusal_beginProcess {s : State} (hc : s.consumer = .idle) (ctx : Ctx) :
    NoRefusal (beginProcess ctx s) := by
  rw [beginProcess_of_idle hc]
  exact noRefusal_next _

theorem noRefusal_enqueueByte (b : Byte) (rest : List Byte) (n k : Nat) (s : State) :
    NoRefusal (enqueueByte b rest n k s) := by
  unfold enqueueByte
  split
  · exact noRefusal_next _
  · exact noRefusal_andThen (noRefusal_qPush b s) fun _ _ => noRefusal_next _

theorem noRefusal_producerAdvance (s : State) : NoRefusal (producerAdvance s) := by
  unfold producerAdvance
  cases s.producer with
  | idle => exact noRefusal_next s
  | test => cases s.halted <;> exact noRefusal_next _
  | enqueue b rest n k => exact noRefusal_enqueueByte b rest n k s

theorem noRefusal_runProducer (n : Nat) (s : State) : NoRefusal (runProducer n s) := by
  induction n generalizing s with
  | zero => exact noRefusal_next s
  | succ n ih => exact noRefusal_andThen (noRefusal_producerAdvance s) fun u _ => ih u

theorem noRefusal_consumerAdvance {s : State} (h : BlockInv s) (ha : consumerAnswering s)
    (hd : dispatchesAll s.cfg) : NoRefusal (consumerAdvance s) := by
  cases hc : s.consumer with
  | idle => rw [consumerAdvance_idle hc]; exact noRefusal_next s
  | running ctx ph =>
    by_cases hf : s.fault = none
    case neg => rw [consumerAdvance_halted hc hf]; exact noRefusal_next _
    cases ph with
    | test => rw [consumerAdvance_test hc hf]; exact noRefusal_next _
    | pop =>
      cases hq : s.q with
      | nil => rw [consumerAdvance_empty hc hf hq]; exact noRefusal_next _
      | cons b rest =>
        rw [consumerAdvance_pop hc hf hq]
        have hcons : s.consuming = true := State.consuming_iff.2 (by simp [hc])
        have hstep : NoRefusal (byteStep b (s.setQ rest)) :=
          noRefusal_byteStep (s := s.setQ rest) h.pair hcons ha hd b
        exact noRefusal_andThen hstep fun _ _ => noRefusal_next _

theorem noRefusal_runConsumer (n : Nat) {s : State} (h : BlockInv s) (ha : consumerAnswering s)
    (hd : dispatchesAll s.cfg) : NoRefusal (runConsumer n s) := by
  induction n generalizing s with
  | zero => exact noRefusal_next s
  | succ n ih =>
    refine noRefusal_andThen (noRefusal_consumerAdvance h ha hd) fun u hu => ?_
    exact ih (consumerAdvance_keeps_blockInv hu h) (consumerAdvance_keeps_answering hu ha)
      (consumerAdvance_keeps_cfg hu ▸ hd)

/-- An input that the contract allows is not declined. -/
theorem noRefusal_takeInput {s : State} {x : Input} {rest : List Input} (h : BlockInv s)
    (hc : Contract s) (hi : s.inputs = x :: rest) : NoRefusal (takeInput x (s.setInputs rest)) := by
  obtain ⟨ha, hd, hin⟩ := hc
  have hinv : BlockInv (s.setInputs rest) := h.setInputs rest
  unfold inputAllowed at hin
  rw [hi] at hin
  cases x with
  | write bytes =>
    exact noRefusal_andThen (noRefusal_beginWrite (s := s.setInputs rest) hin bytes)
      fun u _ => noRefusal_runProducer _ u
  | process ctx =>
    obtain ⟨hidle, hctx⟩ := hin
    have hbegin := noRefusal_beginProcess (s := s.setInputs rest) hidle ctx
    refine noRefusal_andThen hbegin fun u hu => ?_
    obtain ⟨-, rfl⟩ := beginProcess_eq_next hu
    exact noRefusal_runConsumer _ (hinv.setConsumer _) hctx hd
  | reset =>
    obtain ⟨hp, hidle⟩ := hin
    simp [takeInput, exec, execReset, hp, hidle]
  | writeBegin bytes => exact noRefusal_beginWrite (s := s.setInputs rest) hin bytes
  | processBegin ctx => exact noRefusal_beginProcess (s := s.setInputs rest) hin.1 ctx
  | producer => exact noRefusal_producerAdvance _
  | consumer => exact noRefusal_consumerAdvance hinv ha hd

/-- With no input waiting an agent in a transaction goes on with it. -/
theorem noRefusal_goOn {s : State} (h : BlockInv s) (ha : consumerAnswering s)
    (hd : dispatchesAll s.cfg) : NoRefusal (goOn s) := by
  by_cases hp : s.producer = .idle
  · rw [goOn_of_producer_idle hp]
    exact noRefusal_consumerAdvance h ha hd
  by_cases hc : s.consumer = .idle
  · rw [goOn_of_consumer_idle hp hc]
    exact noRefusal_producerAdvance s
  rw [goOn_of_both hp hc]
  cases Config.freeTurn s.drawn
  · exact noRefusal_consumerAdvance (h.setDrawn _) ha hd
  · exact noRefusal_producerAdvance _

/-- Settles O43: no step accesses storage that does not exist, and none that the contract covers is
declined, so it answers a next state. -/
theorem everyStepAnswersNext : Obligations.EveryStepAnswersNext := by
  intro s h hc
  refine exists_next_of_noFault_noRefusal (fun f => noStepAccessesAbsentStorage s f h) ?_
  cases hi : s.inputs with
  | cons x rest =>
    rw [step_of_input h.pair hi]
    exact noRefusal_takeInput h hc hi
  | nil =>
    rw [step_of_no_input h.pair hi]
    exact noRefusal_goOn h hc.answering hc.dispatching

/-! ### PROCESS, byte by byte (R94) -/

/-- The loop of PROCESS leads from `s` to `t`, two steps of the consumer for each byte popped. -/
def Loops (s t : State) : Prop :=
  ∀ m, runConsumer (2 * s.q.length + m) s = runConsumer (2 * t.q.length + m) t

theorem Loops.refl (s : State) : Loops s s := fun _ => rfl

theorem Loops.trans {s t u : State} (hst : Loops s t) (htu : Loops t u) : Loops s u :=
  fun m => (hst m).trans (htu m)

/-- `s` with its PROCESS at `phase`: the registers that a frame's bytes and the calls they make move
are given, the context's identity is the one `s` has. -/
def State.inProcess (s : State) (phase : Phase) (st : FrameState) (q : List Byte)
    (answers : List Answer) (outputs : List Output) : State :=
  { s with
    st := st, q := q, consumer := .running ⟨s.ctxId, answers⟩ phase, outputs := outputs }

section
variable (s : State)
@[simp] theorem startFrame_cfg : (startFrame s).cfg = s.cfg := by rw [startFrame_eq]
@[simp] theorem startFrame_ty : (startFrame s).ty = .unknown := by rw [startFrame_eq]
@[simp] theorem startFrame_wc : (startFrame s).wc = 0 := by rw [startFrame_eq]
@[simp] theorem startFrame_hxFill : (startFrame s).hxFill = false := by rw [startFrame_eq]
@[simp] theorem startFrame_fault : (startFrame s).fault = s.fault := by rw [startFrame_eq]
@[simp] theorem startFrame_results : (startFrame s).results = s.results := by rw [startFrame_eq]
end

section
variable {s s' : State} {st st' : FrameState} {q : List Byte} {as as' : List Answer}
  {outs outs' : List Output}

/-- R186: with an answer in the context a call draws it. -/
theorem callThen_inProcess {ph : Phase} {r : Response} {k : Response → State → Out} :
    callThen (s.inProcess ph st q (.respond r :: as) outs) k = k r (s.inProcess ph st q as outs) :=
  rfl

theorem selects_inProcess (hp : pairOk s.cfg.extTypes.length st s.ty = true) (b : Byte) :
    (s.inProcess .pop st q as outs).selects (decodeByte st s.ty b) = true :=
  selects_decodeByte (s := s.inProcess .pop st q as outs) hp rfl b

/-- R94, R95: an iteration tests, pops a byte and runs the operation it selects. -/
theorem loops_of_exec {b : Byte} (hf : s.fault = none)
    (hp : pairOk s.cfg.extTypes.length st s.ty = true)
    (hexec : exec (decodeByte st s.ty b) (s.inProcess .pop st q as outs) =
      .next (s'.inProcess .pop st' q as' outs')) :
    Loops (s.inProcess .test st (b :: q) as outs) (s'.inProcess .test st' q as' outs') := by
  intro m
  have htest : consumerAdvance (s.inProcess .test st (b :: q) as outs) =
      .next (s.inProcess .pop st (b :: q) as outs) :=
    consumerAdvance_test (s := s.inProcess .test st (b :: q) as outs) rfl hf
  have hpop : consumerAdvance (s.inProcess .pop st (b :: q) as outs) =
      .next (s'.inProcess .test st' q as' outs') := by
    have hstep : byteStep b (s.inProcess .pop st q as outs) = _ :=
      (byteStep_eq_exec (s := s.inProcess .pop st q as outs) hp b).trans hexec
    exact (consumerAdvance_pop (s := s.inProcess .pop st (b :: q) as outs) rfl hf rfl).trans
      (congrArg (andThen · _) hstep)
  have hfuel : 2 * (s.inProcess .test st (b :: q) as outs).q.length + m = 2 * q.length + m + 2 := by
    simp only [State.inProcess, List.length_cons]
    omega
  rw [hfuel, runConsumer_succ, htest, andThen_next, runConsumer_succ, hpop, andThen_next]
  rfl

/-- R94, R98: with the queue empty the loop returns at its next pop. -/
theorem runConsumer_empty (hf : s.fault = none) :
    runConsumer 2 (s.inProcess .test st [] as outs) =
      .next (finishProcess .processOk (s.inProcess .pop st [] as outs)) := by
  have htest : consumerAdvance (s.inProcess .test st [] as outs) =
      .next (s.inProcess .pop st [] as outs) :=
    consumerAdvance_test (s := s.inProcess .test st [] as outs) rfl hf
  have hpop : consumerAdvance (s.inProcess .pop st [] as outs) = .next _ :=
    consumerAdvance_empty (s := s.inProcess .pop st [] as outs) rfl hf rfl
  rw [runConsumer_succ, htest, andThen_next, runConsumer_succ, hpop, andThen_next]
  rfl

/-- A PROCESS whose loop drains the queue returns Ok. -/
theorem execProcess_of_loops {ctx : Ctx} (hc : s.consumer = .idle) (hf : s'.fault = none)
    (h : Loops (s.setConsumer (.running ctx .test)) (s'.inProcess .test st [] as outs)) :
    exec (.process ctx) s =
      .next (finishProcess .processOk (s'.inProcess .pop st [] as outs)) := by
  have hbegin : exec (.process ctx) s =
      runConsumer (2 * s.q.length + 2) (s.setConsumer (.running ctx .test)) :=
    congrArg (andThen · (runConsumer (2 * (s.q.length + 1)))) (beginProcess_of_idle hc ctx)
  exact hbegin.trans ((h 2).trans (runConsumer_empty hf))

/-! ### The delimiters and the selector of an Application frame -/

/-- R131: what STX reports of the frame that it cuts short. -/
def stxOutputs (st : FrameState) : List Output :=
  if st = .wait then [] else [.diag (.partialFrame st)]

/-- R131: STX opens a frame, and outside Wait reports the one it cuts short. -/
theorem loops_stx (hf : s.fault = none) (hp : pairOk s.cfg.extTypes.length st s.ty = true) :
    Loops (s.inProcess .test st (0x02#8 :: q) as outs)
      ((startFrame s).inProcess .test .init q as (outs ++ stxOutputs st)) := by
  refine loops_of_exec hf hp ((whenSelected_of_selects (selects_inProcess hp 0x02#8)).trans ?_)
  by_cases hst : st = .wait
  · simp only [State.inProcess, stxOutputs, hst, if_true, List.append_nil, startFrame_eq]
    rfl
  · simp only [State.inProcess, stxOutputs, hst, if_false, startFrame_eq]
    rfl

/-- R146: the selector gives the frame its type. -/
theorem loops_selector {c : Byte} (hf : s.fault = none)
    (hp : pairOk s.cfg.extTypes.length .init s.ty = true) (hc : isData c = true)
    (ht : classify s.cfg c ≠ .unknown) :
    Loops (s.inProcess .test .init (c :: q) as outs)
      ((s.setTy (classify s.cfg c)).inProcess .test .init q as outs) := by
  refine loops_of_exec hf hp ?_
  have hsel := selects_inProcess (q := q) (as := as) (outs := outs) hp c
  rw [decodeByte_of_isData hc] at hsel ⊢
  exact (whenSelected_of_selects hsel).trans (if_neg ht)

theorem unitResult_of_not_isErr {r : Response} (hr : r.isErr = false) : unitResult r = .ok () := by
  simp [unitResult, hr]

/-- R136: where the kill succeeds the checksum field begins. -/
theorem loops_kill {r : Response} (hf : s.fault = none) (ht : s.ty = .application)
    (hr : r.isErr = false) :
    Loops (s.inProcess .test .init (0x1F#8 :: q) (.respond r :: as) outs)
      (s.inProcess .test .applicationChecksum q as (outs ++ [.call (.kill (.ok ()))])) := by
  have hp : pairOk s.cfg.extTypes.length .init s.ty = true := by rw [ht]; rfl
  refine loops_of_exec hf hp ?_
  have hsel := selects_inProcess (q := q) (as := .respond r :: as) (outs := outs) hp 0x1F#8
  rw [ht] at hsel ⊢
  refine (whenSelected_of_selects hsel).trans (callThen_inProcess.trans ?_)
  rw [unitResult_of_not_isErr hr]
  rfl

/-- R140: the firmware field begins. -/
theorem loops_endChecksum (hf : s.fault = none) (ht : s.ty = .application) :
    Loops (s.inProcess .test .applicationChecksum (0x1F#8 :: q) as outs)
      (s.inProcess .test .applicationStore q as outs) := by
  have hp : pairOk s.cfg.extTypes.length .applicationChecksum s.ty = true := by rw [ht]; rfl
  exact loops_of_exec hf hp (whenSelected_of_selects (selects_inProcess hp 0x1F#8))

/-- R133, R182: where the load verifies, the frame ends with that one call. -/
theorem loops_verify {r : Response} (hf : s.fault = none) (ht : s.ty = .application)
    (hr : r.isErr = false) :
    Loops (s.inProcess .test .applicationStore (0x03#8 :: q) (.respond r :: as) outs)
      (s.inProcess .test .wait q as (outs ++ [.call (.verify (.ok ()))])) := by
  have hp : pairOk s.cfg.extTypes.length .applicationStore s.ty = true := by rw [ht]; rfl
  refine loops_of_exec hf hp ((whenSelected_of_selects (selects_inProcess hp 0x03#8)).trans ?_)
  have hdispatch : dispatch ((s.inProcess .pop .applicationStore q (.respond r :: as) outs).setSt
      .wait) = dispatchApplication (s.inProcess .pop .wait q (.respond r :: as) outs) := by
    simp only [dispatch, State.setSt_ty, State.inProcess, ht]
    rfl
  refine hdispatch.trans (callThen_inProcess.trans ?_)
  rw [unitResult_of_not_isErr hr]
  rfl

end

/-! ### The hex fields of an Application frame -/

/-- R71, R79: a hex digit is a data byte. -/
theorem isData_of_hexval {c : Byte} {v : BitVec 4} (h : hexval c = some v) : isData c = true := by
  have hne : ∀ b : Byte, hexval b = none → c ≠ b := by
    rintro b hb rfl
    simp [hb] at h
  simp [isData, byteClass, hne 0x02#8 (by decide), hne 0x03#8 (by decide),
    hne 0x1F#8 (by decide)]

/-- R80: both characters of a pair that has a value are hex digits, so data bytes. -/
theorem isData_of_hexPair {c0 c1 v : Byte} (h : hexPair c0 c1 = some v) :
    isData c0 = true ∧ isData c1 = true := by
  cases h0 : hexval c0 with
  | none => simp [hexPair_of_hexval_none (.inl h0)] at h
  | some x =>
    cases h1 : hexval c1 with
    | none => simp [hexPair_of_hexval_none (.inr h1)] at h
    | some y => exact ⟨isData_of_hexval h0, isData_of_hexval h1⟩

/-- A hex field of an Application frame: its frame state, and the call that takes its pairs (R152,
R153). -/
def HexField (st : FrameState) (call : Byte → Result Unit → Call) : Prop :=
  (st = .applicationChecksum ∧ call = .writeChecksumByte) ∨
    (st = .applicationStore ∧ call = .writeRamByte)

/-- A hex pair as it stands in the stream: its two characters. -/
def pairBytes (pairs : List (Byte × Byte × Byte)) : List Byte :=
  pairs.flatMap fun p => [p.1, p.2.1]

/-- What the pairs of a field put out: one call each, with the pair's value. -/
def pairOutputs (call : Byte → Result Unit → Call) (pairs : List (Byte × Byte × Byte)) :
    List Output :=
  pairs.map fun p => .call (call p.2.2 (.ok ()))

/-- A collaborator's answer that takes the call. -/
def takesCall (a : Answer) : Prop := ∃ r : Response, a = .respond r ∧ r.isErr = false

theorem exists_respond_of_takesCall {as : List Answer} (h : ∀ a ∈ as, takesCall a)
    (hlen : 0 < as.length) : ∃ r as', as = .respond r :: as' ∧ r.isErr = false := by
  cases as with
  | nil => cases hlen
  | cons a as' =>
    obtain ⟨r, rfl, hr⟩ := h a List.mem_cons_self
    exact ⟨r, as', rfl, hr⟩

/-- R113: a first character pends. -/
theorem decodeCharacter_first {s : State} {d : Byte} {call : Byte → Result Unit → Call}
    {reject : Byte → CollabError → Diag} (h : s.hxFill = false) :
    decodeCharacter d call reject s = .next ((s.setHxC0 d).setHxFill true) := by
  simp only [decodeCharacter, feed_first h]
  rfl

/-- R113, R152, R153: a second character completes a pair, whose value the sink takes. -/
theorem decodeCharacter_second {s : State} {d v : Byte} {call : Byte → Result Unit → Call}
    {reject : Byte → CollabError → Diag} {r : Response} (h : s.hxFill = true)
    (hv : hexPair s.hxC0 d = some v) (ha : s.answer = some r) (hr : r.isErr = false) :
    decodeCharacter d call reject s =
      .next (((s.setHxC1 d).setHxFill false).advance.addCall (call v (.ok ()))) := by
  have ha' : ((s.setHxC1 d).setHxFill false).answer = some r := ha
  simp only [decodeCharacter, feed_second h, hv]
  refine (callThen_of_answer ha').trans ?_
  rw [unitResult_of_not_isErr hr]

section
variable {s : State} {st : FrameState} {q : List Byte} {as : List Answer} {outs : List Output}
  {call : Byte → Result Unit → Call} (hx : HexField st call) (hf : s.fault = none)
  (ht : s.ty = .application)
include hx ht

theorem HexField.pairOk : pairOk s.cfg.extTypes.length st s.ty = true := by
  rw [ht]
  obtain ⟨rfl, -⟩ | ⟨rfl, -⟩ := hx <;> rfl

/-- R83: in a hex field a data byte goes to the decoder and its value to the field's call. -/
theorem HexField.exec_eq {d : Byte} (hd : isData d = true) :
    ∃ reject, exec (decodeByte st s.ty d) (s.inProcess .pop st q as outs) =
      decodeCharacter d call reject (s.inProcess .pop st q as outs) := by
  have hsel := selects_inProcess (q := q) (as := as) (outs := outs) (hx.pairOk ht) d
  rw [decodeByte_of_isData hd] at hsel ⊢
  obtain ⟨rfl, rfl⟩ | ⟨rfl, rfl⟩ := hx
  · exact ⟨.checksumReject, whenSelected_of_selects hsel⟩
  · exact ⟨.ramReject, whenSelected_of_selects hsel⟩

include hf

theorem HexField.loops_first {a : Byte} (ha : isData a = true) (hfill : s.hxFill = false) :
    Loops (s.inProcess .test st (a :: q) as outs)
      (((s.setHxC0 a).setHxFill true).inProcess .test st q as outs) := by
  obtain ⟨reject, hexec⟩ := hx.exec_eq ht ha
  exact loops_of_exec hf (hx.pairOk ht) (hexec.trans (decodeCharacter_first hfill))

theorem HexField.loops_second {b v : Byte} {r : Response} (hb : isData b = true)
    (hfill : s.hxFill = true) (hv : hexPair s.hxC0 b = some v) (hr : r.isErr = false) :
    Loops (s.inProcess .test st (b :: q) (.respond r :: as) outs)
      (((s.setHxC1 b).setHxFill false).inProcess .test st q as
        (outs ++ [.call (call v (.ok ()))])) := by
  obtain ⟨reject, hexec⟩ := hx.exec_eq ht hb
  have hsecond := decodeCharacter_second (s := s.inProcess .pop st q (.respond r :: as) outs)
    (call := call) (reject := reject) hfill hv rfl hr
  exact loops_of_exec hf (hx.pairOk ht) (hexec.trans hsecond)

/-- R80, R152, R153: a pair is sunk, and the decoder is between pairs again. -/
theorem HexField.loops_pair {a b v : Byte} {r : Response} (hfill : s.hxFill = false)
    (hv : hexPair a b = some v) (hr : r.isErr = false) :
    Loops (s.inProcess .test st (a :: b :: q) (.respond r :: as) outs)
      (((s.setHxC0 a).setHxC1 b).inProcess .test st q as
        (outs ++ [.call (call v (.ok ()))])) := by
  obtain ⟨ha, hb⟩ := isData_of_hexPair hv
  have hdone : (((s.setHxC0 a).setHxFill true).setHxC1 b).setHxFill false =
      (s.setHxC0 a).setHxC1 b := by
    rw [← hfill]
    rfl
  rw [← hdone]
  exact (hx.loops_first hf ht ha hfill).trans
    (HexField.loops_second (s := (s.setHxC0 a).setHxFill true) hx hf ht hb rfl hv hr)

end

/-- R75, R80: the pairs of a field are sunk in wire order, one call each; only the decoder's
characters move. -/
theorem HexField.loops_pairs {s : State} {st : FrameState} {q : List Byte} {as : List Answer}
    {outs : List Output} {call : Byte → Result Unit → Call} {pairs : List (Byte × Byte × Byte)}
    (hx : HexField st call) (hf : s.fault = none) (ht : s.ty = .application)
    (hfill : s.hxFill = false) (hv : ∀ p ∈ pairs, hexPair p.1 p.2.1 = some p.2.2)
    (has : ∀ a ∈ as, takesCall a) (hlen : pairs.length ≤ as.length) :
    ∃ c0 c1, Loops (s.inProcess .test st (pairBytes pairs ++ q) as outs)
      (((s.setHxC0 c0).setHxC1 c1).inProcess .test st q (as.drop pairs.length)
        (outs ++ pairOutputs call pairs)) := by
  induction pairs generalizing s as outs with
  | nil =>
    refine ⟨s.hxC0, s.hxC1, ?_⟩
    rw [pairOutputs, List.map_nil, List.append_nil]
    exact Loops.refl _
  | cons p pairs ih =>
    have hpos : 0 < as.length := Nat.lt_of_lt_of_le (Nat.succ_pos _) hlen
    obtain ⟨r, as, rfl, hr⟩ := exists_respond_of_takesCall has hpos
    have hpair := hx.loops_pair (q := pairBytes pairs ++ q) (as := as) (outs := outs) hf ht hfill
      (hv p List.mem_cons_self) hr
    obtain ⟨c0, c1, hrest⟩ := ih (s := (s.setHxC0 p.1).setHxC1 p.2.1)
      (outs := outs ++ [.call (call p.2.2 (.ok ()))]) hf ht hfill
      (fun p' h => hv p' (List.mem_cons_of_mem _ h)) (fun a h => has a (List.mem_cons_of_mem _ h))
      (Nat.le_of_succ_le_succ hlen)
    refine ⟨c0, c1, ?_⟩
    rw [pairOutputs, List.map_cons, List.append_cons]
    exact hpair.trans hrest

/-! ### An Application frame -/

/-- An Application frame past its selector: two fields of pairs, each after a separator, and ETX. -/
def applicationFields (sum firmware : List (Byte × Byte × Byte)) : List Byte :=
  0x1F#8 :: (pairBytes sum ++ 0x1F#8 :: (pairBytes firmware ++ [0x03#8]))

/-- R75, R136, R140, R133: past its selector an Application frame is a kill, the two fields' pairs
and a verify; only the decoder's characters and the answers move. -/
theorem loops_applicationFields {s : State} {as : List Answer} {outs : List Output}
    {sum firmware : List (Byte × Byte × Byte)} (hf : s.fault = none) (ht : s.ty = .application)
    (hfill : s.hxFill = false) (hsum : ∀ p ∈ sum, hexPair p.1 p.2.1 = some p.2.2)
    (hfirmware : ∀ p ∈ firmware, hexPair p.1 p.2.1 = some p.2.2) (has : ∀ a ∈ as, takesCall a)
    (hlen : sum.length + firmware.length + 2 ≤ as.length) :
    ∃ c0 c1 left, Loops (s.inProcess .test .init (applicationFields sum firmware) as outs)
      (((s.setHxC0 c0).setHxC1 c1).inProcess .test .wait [] left
        (outs ++ [.call (.kill (.ok ()))] ++ pairOutputs .writeChecksumByte sum ++
          pairOutputs .writeRamByte firmware ++ [.call (.verify (.ok ()))])) := by
  obtain ⟨r, as, rfl, hr⟩ := exists_respond_of_takesCall has (by omega)
  have has : ∀ a ∈ as, takesCall a := fun a h => has a (List.mem_cons_of_mem _ h)
  rw [List.length_cons] at hlen
  have hchecksum : HexField .applicationChecksum .writeChecksumByte := .inl ⟨rfl, rfl⟩
  have hstore : HexField .applicationStore .writeRamByte := .inr ⟨rfl, rfl⟩
  obtain ⟨a0, a1, hloopSum⟩ := hchecksum.loops_pairs
    (q := 0x1F#8 :: (pairBytes firmware ++ [0x03#8])) (outs := outs ++ [.call (.kill (.ok ()))])
    hf ht hfill hsum has (by omega)
  have has1 : ∀ a ∈ as.drop sum.length, takesCall a := fun a h => has a (List.mem_of_mem_drop h)
  obtain ⟨b0, b1, hloopFirmware⟩ := hstore.loops_pairs (s := (s.setHxC0 a0).setHxC1 a1)
    (q := [0x03#8])
    (outs := outs ++ [.call (.kill (.ok ()))] ++ pairOutputs .writeChecksumByte sum)
    hf ht hfill hfirmware has1 (by rw [List.length_drop]; omega)
  obtain ⟨r', left, hleft, hr'⟩ := exists_respond_of_takesCall
    (as := (as.drop sum.length).drop firmware.length)
    (fun a h => has1 a (List.mem_of_mem_drop h)) (by simp only [List.length_drop]; omega)
  rw [hleft] at hloopFirmware
  exact ⟨b0, b1, left, (loops_kill hf ht hr).trans <| hloopSum.trans <|
    (loops_endChecksum (s := (s.setHxC0 a0).setHxC1 a1) hf ht).trans <| hloopFirmware.trans <|
      loops_verify (s := (s.setHxC0 b0).setHxC1 b1) hf ht hr'⟩

/-- R131, R146: STX and a selector of type Application open an empty frame of that type. -/
theorem loops_openApplication {s : State} {st : FrameState} {c : Byte} {q : List Byte}
    {as : List Answer} {outs : List Output} (hf : s.fault = none)
    (hp : pairOk s.cfg.extTypes.length st s.ty = true) (hc : isData c = true)
    (hclass : classify s.cfg c = .application) :
    ∃ t : State, Loops (s.inProcess .test st (0x02#8 :: c :: q) as outs)
        (t.inProcess .test .init q as (outs ++ stxOutputs st)) ∧
      t.ty = .application ∧ t.fault = none ∧ t.hxFill = false ∧ t.wc = 0 ∧
      t.results = s.results := by
  have hclass' : classify (startFrame s).cfg c = .application := by rw [startFrame_cfg, hclass]
  have hselector := loops_selector (s := startFrame s) (q := q) (as := as)
    (outs := outs ++ stxOutputs st)
    (by rw [startFrame_fault, hf]) (by rw [startFrame_ty]; rfl) hc (by rw [hclass']; decide)
  rw [hclass'] at hselector
  exact ⟨_, (loops_stx hf hp).trans hselector, by simp [hf]⟩

/-- Settles O54: STX and the selector open an Application frame, its fields run to Wait with the
queue empty, and there PROCESS returns. -/
theorem applicationFrameIsDecodedInOrder : Obligations.ApplicationFrameIsDecodedInOrder := by
  intro s ctx c sum firmware hc hf hp hdata hclass hpairs hanswers hlen hq
  have hqueue : s.q = 0x02#8 :: c :: applicationFields sum firmware := by
    rw [hq]
    simp [applicationFields, pairBytes]
  obtain ⟨t, hopen, ht, hfault, hfill, hcursor, hresults⟩ := loops_openApplication
    (s := s.setConsumer (.running ctx .test)) (st := s.st) (q := applicationFields sum firmware)
    (as := ctx.answers) (outs := s.outputs) hf hp hdata hclass
  obtain ⟨c0, c1, left, hfields⟩ := loops_applicationFields
    (outs := s.outputs ++ stxOutputs s.st) hfault ht hfill
    (fun p h => hpairs p (List.mem_append_left _ h))
    (fun p h => hpairs p (List.mem_append_right _ h)) hanswers hlen
  have hloops := hopen.trans hfields
  rw [← hqueue] at hloops
  refine ⟨_, execProcess_of_loops hc ?_ hloops, rfl, rfl, hfault, ?_, hcursor, rfl⟩
  · exact hfault
  · exact congrArg (· ++ [PortResult.processOk]) hresults

end Sys2Proof.Machine
end

section
/-! PROOFS. The port transactions (40_queue_ops.md): a WRITE byte by byte up to capacity (R90 to
R93), a PROCESS as a loop of pop and Step that ends with the queue drained or the engine halted (R94
to R98), and both of them begun and then moved by their own agent's steps alone (R210). -/

namespace Sys2Proof.Machine

/-! ### The end of a transaction -/

theorem finishProcess_eq (r : PortResult) (s : State) :
    finishProcess r s = { s with consumer := .idle, results := s.results ++ [r] } := rfl

/-- A WRITE that returns at its begin leaves its producer idle for the whole of its run. -/
theorem execWrite_of_begin_returns {bytes : List Byte} {s : State} {r : PortResult}
    (hp : s.producer = .idle) (h : beginWrite bytes s = .next (s.addResult r)) :
    exec (.write bytes) s = .next (s.addResult r) := by
  have hrun : exec (.write bytes) s = runProducer (2 * bytes.length) (s.addResult r) :=
    congrArg (andThen · (runProducer (2 * bytes.length))) h
  exact hrun.trans (runProducer_idle (s := s.addResult r) hp _)

/-! ### WRITE, byte by byte (R90 to R93) -/

/-- Settles O25: at capacity the overflow is raised, and below it the byte is pushed and the WRITE
stands at its next byte or returns. -/
theorem enqueueByteTestsAndPushes : Obligations.EnqueueByteTestsAndPushes := by
  intro s b rest n k hp
  refine ⟨fun hfull => ?_, fun hroom => ⟨_, producerAdvance_push hp hroom, ?_, ?_, ?_⟩⟩
  · rw [producerAdvance_full hp hfull, finishWrite_eq, raiseFatal_eq]
  · rw [nextByte_eq]
    rfl
  · rintro rfl
    exact ⟨rfl, rfl⟩
  · rintro b' rest' rfl
    exact ⟨rfl, rfl⟩

/-- Settles O26: the fault test ends the WRITE, at its begin and before each later byte. -/
theorem writeWhileHaltedDoesNothing : Obligations.WriteWhileHaltedDoesNothing :=
  ⟨fun bytes _ hp hf => execWrite_of_begin_returns hp (beginWrite_halted hp hf bytes),
    fun _ _ _ _ _ hp hf => producerAdvance_halted hp hf⟩

section
variable {s : State} {b : Byte} {rest : List Byte} {n k : Nat}

/-- R90: a WRITE of at least one byte stands before its first fault test and runs from there. -/
theorem execWrite_cons (hp : s.producer = .idle) (hf : s.fault = none) :
    exec (.write (b :: rest)) s = runProducer (2 * (rest.length + 1))
      (s.setProducer (.test b rest (rest.length + 1) 0)) :=
  congrArg (andThen · (runProducer (2 * (rest.length + 1)))) (beginWrite_cons hp hf b rest)

/-- R90, R91: an iteration of WRITE's loop below capacity pushes its byte. -/
theorem runProducer_push (hp : s.producer = .test b rest n k) (hf : s.fault = none)
    (hq : s.q.length < s.cfg.qcap) (m : Nat) :
    runProducer (m + 2) s = runProducer m (nextByte rest n (k + 1) (s.setQ (s.q ++ [b]))) := by
  have hpush : producerAdvance (s.setProducer (.enqueue b rest n k)) = .next _ :=
    producerAdvance_push (s := s.setProducer (.enqueue b rest n k)) rfl hq
  rw [runProducer_succ, producerAdvance_test hp hf, andThen_next, runProducer_succ, hpush,
    andThen_next]
  cases rest <;> rfl

/-- R90, R91: an iteration of WRITE's loop at capacity raises the overflow and ends the WRITE. -/
theorem runProducer_full (hp : s.producer = .test b rest n k) (hf : s.fault = none)
    (hq : s.q.length = s.cfg.qcap) (m : Nat) :
    runProducer (m + 2) s = .next { s with
      fault := some (.queueOverflow n k), producer := .idle,
      results := s.results ++ [.writeOverflow n k] } := by
  have hfull : producerAdvance (s.setProducer (.enqueue b rest n k)) = .next _ :=
    producerAdvance_full (s := s.setProducer (.enqueue b rest n k)) rfl hq
  rw [runProducer_succ, producerAdvance_test hp hf, andThen_next, runProducer_succ, hfull,
    andThen_next, runProducer_idle rfl, finishWrite_eq, raiseFatal_eq]
  simp [hf, State.setProducer]

end

/-- R92: where the bytes left of a WRITE fit, all of them are pushed. -/
theorem runProducer_of_fits {s : State} {b : Byte} {rest : List Byte} {n k : Nat}
    (hp : s.producer = .test b rest n k) (hf : s.fault = none)
    (hfits : s.q.length + (rest.length + 1) ≤ s.cfg.qcap) :
    runProducer (2 * (rest.length + 1)) s = .next { s with
      q := s.q ++ b :: rest, producer := .idle, results := s.results ++ [.writeOk] } := by
  induction rest generalizing s b k with
  | nil => exact runProducer_push hp hf hfits 0
  | cons c rest ih =>
    have hroom : s.q.length < s.cfg.qcap := by omega
    have hlen : (s.q ++ [b]).length + (rest.length + 1) ≤ s.cfg.qcap := by
      simp only [List.length_append, List.length_cons, List.length_nil] at hfits ⊢
      omega
    refine (runProducer_push hp hf hroom _).trans ?_
    refine (ih (s := nextByte (c :: rest) n (k + 1) (s.setQ (s.q ++ [b]))) rfl hf hlen).trans ?_
    simp [nextByte, State.setProducer, State.setQ]

/-- R92: where `room` bytes fit and more are left of a WRITE, those are pushed and the next raises
the overflow, which names the count of all bytes pushed. -/
theorem runProducer_of_overflows {s : State} {b : Byte} {rest : List Byte} {n k room : Nat}
    (hp : s.producer = .test b rest n k) (hf : s.fault = none)
    (hroom : s.q.length + room = s.cfg.qcap) (hover : room ≤ rest.length) :
    runProducer (2 * (rest.length + 1)) s = .next { s with
      q := s.q ++ (b :: rest).take room, fault := some (.queueOverflow n (k + room)),
      producer := .idle, results := s.results ++ [.writeOverflow n (k + room)] } := by
  induction room generalizing s b rest k with
  | zero =>
    refine (runProducer_full hp hf hroom (2 * rest.length)).trans ?_
    rw [List.take_zero, List.append_nil]
    rfl
  | succ room ih =>
    cases rest with
    | nil => exact absurd hover (Nat.not_succ_le_zero room)
    | cons c rest =>
      have hlen : (s.q ++ [b]).length + room = s.cfg.qcap := by
        rw [List.length_append, List.length_singleton, ← hroom]
        omega
      refine (runProducer_push hp hf (by omega) _).trans ?_
      refine (ih (s := nextByte (c :: rest) n (k + 1) (s.setQ (s.q ++ [b]))) rfl hf hlen
        (Nat.le_of_succ_le_succ hover)).trans ?_
      have hcount : k + 1 + room = k + (room + 1) := by omega
      simp [nextByte, State.setProducer, State.setQ, hcount]

/-- Settles O24: the bytes that fit are pushed one iteration each; the first that does not raises
the overflow. -/
theorem writeOverflowsExactlyAtCapacity : Obligations.WriteOverflowsExactlyAtCapacity := by
  intro bytes s hp hf hcap
  cases bytes with
  | nil =>
    refine ⟨fun _ => ?_, fun hover => absurd hover (Nat.not_lt.2 hcap)⟩
    rw [execWrite_of_begin_returns hp (beginWrite_nil hp hf), List.append_nil]
    rfl
  | cons b rest =>
    rw [execWrite_cons hp hf]
    refine ⟨fun hfits => ?_, fun hover => ?_⟩
    · refine (runProducer_of_fits (s := s.setProducer _) rfl hf hfits).trans ?_
      rw [← hp]
      rfl
    · have hmore : s.cfg.qcap - s.q.length ≤ rest.length := by
        rw [List.length_cons] at hover
        omega
      refine (runProducer_of_overflows (s := s.setProducer _) rfl hf (Nat.add_sub_cancel' hcap)
        hmore).trans ?_
      rw [← hp, Nat.zero_add]
      rfl

/-! ### PROCESS, iteration by iteration (R94 to R97) -/

/-- R94: a PROCESS stands before its first fault test and runs from there. -/
theorem execProcess_of_idle {s : State} (hc : s.consumer = .idle) (ctx : Ctx) :
    exec (.process ctx) s =
      runConsumer (2 * (s.q.length + 1)) (s.setConsumer (.running ctx .test)) :=
  congrArg (andThen · (runConsumer (2 * (s.q.length + 1)))) (beginProcess_of_idle hc ctx)

section
variable {s : State} {ctx : Ctx}

/-- R97: on a halted engine a run of the consumer is over at its first step. -/
theorem runConsumer_halted {ph : Phase} (hc : s.consumer = .running ctx ph) (hf : s.fault ≠ none)
    (m : Nat) : runConsumer (m + 1) s = .next (finishProcess .processHalted s) := by
  rw [runConsumer_succ, consumerAdvance_halted hc hf, andThen_next, runConsumer_idle rfl]

/-- R94, R96: with the queue empty an iteration of PROCESS's loop ends it with Ok. -/
theorem runConsumer_drained (hc : s.consumer = .running ctx .test) (hf : s.fault = none)
    (hq : s.q = []) (m : Nat) : runConsumer (m + 2) s = .next (finishProcess .processOk s) := by
  have hpop : consumerAdvance (s.setConsumer (.running ctx .pop)) = .next _ :=
    consumerAdvance_empty (s := s.setConsumer (.running ctx .pop)) rfl hf hq
  rw [runConsumer_succ, consumerAdvance_test hc hf, andThen_next, runConsumer_succ, hpop,
    andThen_next, runConsumer_idle rfl]
  rfl

/-- R94, R95: with a byte queued an iteration of PROCESS's loop is its pop and its Step. -/
theorem runConsumer_pop {b : Byte} {rest : List Byte} (hc : s.consumer = .running ctx .test)
    (hf : s.fault = none) (hq : s.q = b :: rest) (m : Nat) :
    runConsumer (m + 2) s =
      andThen (byteStep b ((s.setConsumer (.running ctx .pop)).setQ rest))
        (fun u => runConsumer m (nextIteration u)) := by
  have hpop : consumerAdvance (s.setConsumer (.running ctx .pop)) = _ :=
    consumerAdvance_pop (s := s.setConsumer (.running ctx .pop)) rfl hf hq
  rw [runConsumer_succ, consumerAdvance_test hc hf, andThen_next, runConsumer_succ, hpop,
    andThen_assoc]
  rfl

/-- R95: a Step uses up answers of the running PROCESS and moves no port. -/
theorem byteStep_ports {ph : Phase} {b : Byte} {u : State} (hc : s.consumer = .running ctx ph)
    (h : byteStep b s = .next u) :
    (∃ ctx', u.consumer = .running ctx' ph) ∧ u.q = s.q ∧ u.producer = s.producer ∧
      u.inputs = s.inputs ∧ u.results = s.results := by
  obtain ⟨-, hexec⟩ := byteStep_eq_next h
  obtain ⟨-, hstep⟩ := handlerStep_of_exec (decodeByte_isHandler _ _ _) hexec
  obtain ⟨cs, ds, -, -, -, hcons, -⟩ := hstep.outputs
  obtain ⟨left, hleft, -⟩ := State.advanceBy_consumer_running cs.length hc
  obtain ⟨hq, -, hprod, hin, hres⟩ := hstep.kept
  exact ⟨⟨_, hcons.trans hleft⟩, hq, hprod, hin, hres⟩

theorem nextIteration_of_running {ph : Phase} (hc : s.consumer = .running ctx ph) :
    nextIteration s = s.setConsumer (.running ctx .test) := by
  simp [nextIteration, hc]

end

/-- Settles O27: a PROCESS of an empty queue passes its fault test and returns at its pop. -/
theorem processOnEmptyQueueIsNoOp : Obligations.ProcessOnEmptyQueueIsNoOp := by
  refine ⟨fun ctx s hc hf hq => ?_, fun ctx s hc hf hq => consumerAdvance_empty hc hf hq⟩
  rw [execProcess_of_idle hc]
  refine (runConsumer_drained (s := s.setConsumer _) rfl hf hq (2 * s.q.length)).trans ?_
  rw [finishProcess_eq, ← hc]
  rfl

/-! ### A halted engine (R97, R206) -/

/-- The step from `s` to `t` moved no byte off the queue and nothing outside the ports. -/
def MovesPortsAlone (s t : State) : Prop :=
  (∃ pushed, t.q = s.q ++ pushed) ∧
    t = (s.withPorts t.q t.producer t.consumer t.results t.inputs).setDrawn t.drawn

theorem MovesPortsAlone.refl (s : State) : MovesPortsAlone s s :=
  ⟨⟨[], (List.append_nil _).symm⟩, rfl⟩

theorem MovesPortsAlone.trans {s t u : State} (hst : MovesPortsAlone s t)
    (htu : MovesPortsAlone t u) : MovesPortsAlone s u := by
  obtain ⟨⟨p, hp⟩, ht⟩ := hst
  obtain ⟨⟨p', hp'⟩, hu⟩ := htu
  have hframe := congrArg (fun v : State =>
    (v.withPorts u.q u.producer u.consumer u.results u.inputs).setDrawn u.drawn) ht
  exact ⟨⟨p ++ p', by rw [hp', hp, List.append_assoc]⟩, hu.trans hframe⟩

theorem MovesPortsAlone.fault {s t : State} (h : MovesPortsAlone s t) : t.fault = s.fault :=
  (congrArg State.fault h.2 :)

theorem movesPortsAlone_of_q_eq {s t : State} (hq : t.q = s.q)
    (ht : t = (s.withPorts t.q t.producer t.consumer t.results t.inputs).setDrawn t.drawn) :
    MovesPortsAlone s t :=
  ⟨⟨[], by rw [hq, List.append_nil]⟩, ht⟩

theorem beginWrite_movesPortsAlone {bytes : List Byte} {s t : State}
    (h : beginWrite bytes s = .next t) : MovesPortsAlone s t := by
  obtain ⟨-, ⟨-, rfl⟩ | ⟨-, -, rfl⟩ | ⟨-, b, rest, -, rfl⟩⟩ := beginWrite_eq_next h <;>
    exact movesPortsAlone_of_q_eq rfl rfl

theorem beginProcess_movesPortsAlone {ctx : Ctx} {s t : State}
    (h : beginProcess ctx s = .next t) : MovesPortsAlone s t := by
  obtain ⟨-, rfl⟩ := beginProcess_eq_next h
  exact movesPortsAlone_of_q_eq rfl rfl

/-- R207: on a halted engine an overflow records nothing. -/
theorem producerAdvance_movesPortsAlone {s t : State} (hf : s.fault ≠ none)
    (h : producerAdvance s = .next t) : MovesPortsAlone s t := by
  obtain ⟨g, hg⟩ := Option.ne_none_iff_exists'.1 hf
  obtain ⟨-, rfl⟩ | ⟨b, rest, n, k, -, ⟨-, rfl⟩ | ⟨-, rfl⟩⟩ |
    ⟨b, rest, n, k, -, ⟨-, rfl⟩ | ⟨-, rfl⟩⟩ := producerAdvance_eq_next h
  case inr.inr.inl =>
    rw [raiseFatal_of_some hg]
    exact movesPortsAlone_of_q_eq rfl rfl
  case inr.inr.inr => exact ⟨⟨[b], nextByte_q _ _ _ _⟩, by rw [nextByte_eq]; rfl⟩
  all_goals exact movesPortsAlone_of_q_eq rfl rfl

/-- R206: on a halted engine the consumer runs no Step. -/
theorem consumerAdvance_movesPortsAlone {s t : State} (hf : s.fault ≠ none)
    (h : consumerAdvance s = .next t) : MovesPortsAlone s t := by
  cases hc : s.consumer with
  | idle =>
    rw [consumerAdvance_idle hc] at h
    cases h
    exact .refl s
  | running ctx ph =>
    rw [consumerAdvance_halted hc hf] at h
    cases h
    exact movesPortsAlone_of_q_eq rfl rfl

/-- R206: on a halted engine a step that is no RESET moves the ports alone. -/
theorem step_movesPortsAlone {s t : State} (hf : s.fault ≠ none)
    (hreset : ∀ rest, s.inputs ≠ .reset :: rest) (h : step s = .next t) : MovesPortsAlone s t := by
  refine step_rel (R := fun s t => s.fault ≠ none → MovesPortsAlone s t) (fun s _ => .refl s) ?trans
    (fun _ _ _ => movesPortsAlone_of_q_eq rfl rfl) (fun _ _ _ => movesPortsAlone_of_q_eq rfl rfl)
    (fun hu _ => beginWrite_movesPortsAlone hu) (fun hu _ => beginProcess_movesPortsAlone hu)
    (fun hu hf => producerAdvance_movesPortsAlone hf hu)
    (fun hu hf => consumerAdvance_movesPortsAlone hf hu)
    (fun rest hi => absurd hi (hreset rest)) h hf
  case trans => exact fun hst htu hf => (hst hf).trans (htu ((hst hf).fault ▸ hf))

/-- Settles O28: the fault ends a PROCESS at its start and wherever it is, and no atomic step of a
halted engine moves anything but the ports. -/
theorem processWhileHaltedDoesNothing : Obligations.ProcessWhileHaltedDoesNothing := by
  refine ⟨fun ctx s hc hf => ?_, fun ctx ph s hc hf => consumerAdvance_halted hc hf,
    fun s t hf hreset h => step_movesPortsAlone hf hreset h⟩
  rw [execProcess_of_idle hc]
  refine (runConsumer_halted (s := s.setConsumer _) rfl hf _).trans ?_
  rw [finishProcess_eq, ← hc]
  rfl

/-! ### The loop of PROCESS (R94, R98) -/

/-- R94: a PROCESS of a non-empty queue is the Step of its first byte and the run of the rest. -/
theorem execProcess_eq_byteStep {s : State} {b : Byte} {rest : List Byte} (hc : s.consumer = .idle)
    (hf : s.fault = none) (hq : s.q = b :: rest) (ctx : Ctx) :
    exec (.process ctx) s =
      andThen (byteStep b ((s.setConsumer (.running ctx .pop)).setQ rest))
        (fun u => runConsumer (2 * (rest.length + 1)) (nextIteration u)) := by
  rw [execProcess_of_idle hc, hq]
  exact runConsumer_pop (s := s.setConsumer _) rfl hf hq (2 * (rest.length + 1))

/-- Settles O29: where the Step goes on, what is left of the loop is the PROCESS that begins where
the Step ended; a stop of the Step is the PROCESS's. -/
theorem processIsALoopOfPopAndStep : Obligations.ProcessIsALoopOfPopAndStep := by
  intro ctx s b rest hc hf hq
  have hloop := execProcess_eq_byteStep hc hf hq ctx
  refine ⟨fun u hu => ?_, fun r hr => hloop.trans (congrArg (andThen · _) hr),
    fun f hstop => hloop.trans (congrArg (andThen · _) hstop)⟩
  obtain ⟨⟨ctx', hrun⟩, hrest, -⟩ := byteStep_ports (ph := .pop) rfl hu
  refine ⟨ctx', hrun, hloop.trans ((congrArg (andThen · _) hu).trans ?_)⟩
  have hagain : exec (.process ctx') (u.setConsumer .idle) =
      runConsumer (2 * (u.q.length + 1)) (u.setConsumer (.running ctx' .test)) :=
    execProcess_of_idle (s := u.setConsumer .idle) rfl ctx'
  refine Eq.trans ?_ hagain.symm
  rw [andThen_next, nextIteration_of_running hrun, hrest]

/-- How the run of a PROCESS from `s` ends: with the queue drained, or with the engine halted. -/
def Returned (s t : State) : Prop :=
  t.consumer = .idle ∧
    ((t.fault = none ∧ t.q = [] ∧ t.results = s.results ++ [.processOk]) ∨
      (t.fault ≠ none ∧ t.results = s.results ++ [.processHalted]))

theorem returned_of_halted {s t : State} {ctx : Ctx} {ph : Phase} {m : Nat}
    (hc : s.consumer = .running ctx ph) (hf : s.fault ≠ none)
    (h : runConsumer (m + 1) s = .next t) : Returned s t := by
  cases (runConsumer_halted hc hf m).symm.trans h
  exact ⟨rfl, .inr ⟨hf, rfl⟩⟩

/-- R98: two steps for each queued byte and two more are enough for PROCESS's loop to end. -/
theorem runConsumer_returns {q : List Byte} {s t : State} {ctx : Ctx}
    (hc : s.consumer = .running ctx .test) (hq : s.q = q)
    (h : runConsumer (2 * (q.length + 1)) s = .next t) : Returned s t := by
  induction q generalizing s ctx with
  | nil =>
    by_cases hf : s.fault = none
    · cases (runConsumer_drained hc hf hq 0).symm.trans h
      exact ⟨rfl, .inl ⟨hf, hq, rfl⟩⟩
    · exact returned_of_halted (m := 1) hc hf h
  | cons b rest ih =>
    by_cases hf : s.fault = none
    · obtain ⟨u, hu, hrun⟩ :=
        andThen_eq_next.1 ((runConsumer_pop hc hf hq (2 * (rest.length + 1))).symm.trans h)
      obtain ⟨⟨ctx', hc'⟩, hrest, -, -, hres⟩ := byteStep_ports (ph := .pop) rfl hu
      rw [nextIteration_of_running hc'] at hrun
      have hend : Returned (u.setConsumer (.running ctx' .test)) t := ih rfl hrest hrun
      unfold Returned at hend ⊢
      rwa [State.setConsumer_results, hres] at hend
    · exact returned_of_halted (m := 2 * (rest.length + 1) + 1) hc hf h

/-- R62: the consumer leaves the producer and the inputs. -/
theorem consumerAdvance_keeps_producer_inputs {s t : State} (h : consumerAdvance s = .next t) :
    t.producer = s.producer ∧ t.inputs = s.inputs := by
  obtain ⟨-, rfl⟩ | ⟨ctx, ph, -, -, rfl⟩ | ⟨ctx, -, -, rfl⟩ |
    ⟨ctx, -, -, ⟨-, rfl⟩ | ⟨b, rest, u, -, -, hstep, rfl⟩⟩ := consumerAdvance_eq_next h
  case inr.inr.inr.inr =>
    obtain ⟨-, -, hprod, hin, -⟩ := hstep.kept
    unfold nextIteration
    split <;> exact ⟨hprod, hin⟩
  all_goals exact ⟨rfl, rfl⟩

/-- R94: the frame of a run of the consumer. -/
theorem runConsumer_keeps {n : Nat} {s t : State} (h : runConsumer n s = .next t) :
    t.cfg = s.cfg ∧ t.producer = s.producer ∧ t.inputs = s.inputs :=
  runConsumer_rel
    (R := fun s t => t.cfg = s.cfg ∧ t.producer = s.producer ∧ t.inputs = s.inputs)
    (fun _ => ⟨rfl, rfl, rfl⟩)
    (fun ⟨hc, hp, hi⟩ ⟨hc', hp', hi'⟩ => ⟨hc'.trans hc, hp'.trans hp, hi'.trans hi⟩)
    (fun hu => ⟨consumerAdvance_keeps_cfg hu, consumerAdvance_keeps_producer_inputs hu⟩) h

/-- Settles O30: under the invariant and the environment's contract no step of the run stops, and
its bound is enough for the loop to end. -/
theorem processReturnsAfterDraining : Obligations.ProcessReturnsAfterDraining := by
  intro ctx s hc h hd ha
  have hbegun : BlockInv (s.setConsumer (.running ctx .test)) := h.setConsumer _
  obtain ⟨t, ht⟩ := exists_next_of_noFault_noRefusal
    (noFault_runConsumer (2 * (s.q.length + 1)) hbegun) (noRefusal_runConsumer _ hbegun ha hd)
  obtain ⟨popped, hq⟩ := runConsumer_pops_q ht
  obtain ⟨hcfg, hprod, hin⟩ := runConsumer_keeps ht
  obtain ⟨hidle, hend⟩ := runConsumer_returns (s := s.setConsumer _) rfl rfl ht
  exact ⟨t, popped, (execProcess_of_idle hc ctx).trans ht, hq.symm, hidle, hprod, hin, hcfg,
    hend⟩

/-! ### No operation but the step reads the inputs -/

/-- The outcome `o` with its next state's inputs replaced. -/
def withInputs (v : List Input) (o : Out) : Out := andThen o fun t => .next (t.setInputs v)

section
variable {s : State} {v : List Input}

@[simp] theorem withInputs_next : withInputs v (.next s) = .next (s.setInputs v) := rfl
@[simp] theorem withInputs_fault (f : Fault) : withInputs v (.fault f) = .fault f := rfl
@[simp] theorem withInputs_refused (r : Refusal) : withInputs v (.refused r) = .refused r := rfl

theorem andThen_withInputs (o : Out) (k : State → Out) :
    andThen (withInputs v o) k = andThen o fun t => k (t.setInputs v) := by
  cases o <;> rfl

theorem whenSelected_setInputs {i : Instr} {body body' : Out} (h : body' = withInputs v body) :
    whenSelected i (s.setInputs v) body' = withInputs v (whenSelected i s body) := by
  cases hs : s.selects i
  · rw [whenSelected_of_not hs, whenSelected_of_not (s := s.setInputs v) hs]
    rfl
  · rw [whenSelected_of_selects hs, whenSelected_of_selects (s := s.setInputs v) hs, h]

theorem callThen_setInputs {k k' : Response → State → Out}
    (h : ∀ r, k' r (s.advance.setInputs v) = withInputs v (k r s.advance)) :
    callThen (s.setInputs v) k' = withInputs v (callThen s k) := by
  cases ha : s.answer with
  | none =>
    rw [callThen_of_none ha, callThen_of_none (s := s.setInputs v) ha]
    rfl
  | some r =>
    rw [callThen_of_answer ha, callThen_of_answer (s := s.setInputs v) ha]
    exact h r

theorem raiseFatal_setInputs (f : FatalFault) :
    raiseFatal f (s.setInputs v) = (raiseFatal f s).setInputs v := by
  rw [raiseFatal_eq, raiseFatal_eq]
  rfl

theorem fbAppend_setInputs (b : Byte) {stored : State → State}
    (h : ∀ t : State, stored (t.setInputs v) = (stored t).setInputs v) :
    fbAppend b stored (s.setInputs v) = withInputs v (fbAppend b stored s) := by
  unfold fbAppend fbWrite
  by_cases hfull : s.wc = s.cfg.fbcap
  · simp [hfull, raiseFatal_setInputs]
  · by_cases hroom : s.wc < s.cfg.fbcap
    · simp only [State.setInputs_wc, State.setInputs_cfg, hfull, hroom, if_true, if_false,
        andThen_next]
      exact congrArg Host.Outcome.next (h ((s.setFb (Memory.write s.fb s.wc b)).setWc (s.wc + 1)))
    · simp [hfull, hroom]

theorem withFrameBytes_setInputs {k k' : List Byte → Out}
    (h : k' s.frameBytes = withInputs v (k s.frameBytes)) :
    withFrameBytes (s.setInputs v) k' = withInputs v (withFrameBytes s k) := by
  unfold withFrameBytes
  by_cases hw : s.wc ≤ s.cfg.fbcap <;> simp [hw, h]

/-- R152, R153: of a hex handler, its call and its stop at a re-entry included. -/
theorem decodeCharacter_setInputs (d : Byte) (call : Byte → Result Unit → Call)
    (reject : Byte → CollabError → Diag) :
    decodeCharacter d call reject (s.setInputs v) =
      withInputs v (decodeCharacter d call reject s) := by
  have hfeed : feedState d (s.setInputs v) = (feedState d s).setInputs v := by
    unfold feedState
    cases h : s.hxFill <;> simp [h] <;> rfl
  have hresult : feedResult d (s.setInputs v) = feedResult d s := rfl
  simp only [decodeCharacter, hfeed, hresult]
  cases feedResult d s with
  | pending => rfl
  | invalid => rfl
  | value b =>
    refine callThen_setInputs fun r => ?_
    cases unitResult r <;> rfl

/-- R180: of the Dispatcher, for every type of frame. -/
theorem dispatch_setInputs : dispatch (s.setInputs v) = withInputs v (dispatch s) := by
  cases ht : s.ty with
  | unknown => simp [dispatch, ht]
  | application =>
    simp only [dispatch, ht, State.setInputs_ty]
    refine callThen_setInputs fun r => ?_
    cases unitResult r with
    | ok => rfl
    | err e =>
      exact callThen_setInputs (s := s.advance.addCall (.verify (.err e))) fun _ => rfl
  | notification =>
    simp only [dispatch, ht, State.setInputs_ty]
    unfold dispatchNotification
    refine withFrameBytes_setInputs (s := s.setIdx2 s.sc) ?_
    refine callThen_setInputs (s := s.setIdx2 s.sc) fun r => ?_
    cases unitResult r <;> rfl
  | syscall =>
    simp only [dispatch, ht, State.setInputs_ty]
    refine withFrameBytes_setInputs (callThen_setInputs fun r => ?_)
    cases parseResult r with
    | ok cmd =>
      exact callThen_setInputs (s := s.advance.addCall (.parse s.frameBytes (.ok cmd)))
        fun _ => rfl
    | err => rfl
  | ext k =>
    simp only [dispatch, ht, State.setInputs_ty, dispatchExt, State.setInputs_cfg]
    cases extTarget s.cfg.extDispatch k with
    | none => rfl
    | some op => exact withFrameBytes_setInputs (callThen_setInputs fun _ => rfl)

/-- A handler ends alike whatever the inputs are, its stops included. -/
theorem handler_setInputs {i : Instr} (hi : i.isHandler = true) :
    exec i (s.setInputs v) = withInputs v (exec i s) := by
  cases i
  case write | process | reset => cases hi
  case stx =>
    refine whenSelected_setInputs ?_
    by_cases hst : s.st = .wait <;> simp [hst] <;> rfl
  case etx => exact whenSelected_setInputs (dispatch_setInputs (s := s.setSt .wait))
  case usInitApplication =>
    refine whenSelected_setInputs (callThen_setInputs fun r => ?_)
    cases unitResult r <;> rfl
  case dataInit d =>
    refine whenSelected_setInputs ?_
    by_cases ht : classify s.cfg d = .unknown <;> simp [ht] <;> rfl
  case dataPayload | dataNotificationSource | dataNotificationTitle | dataNotificationBody =>
    exact whenSelected_setInputs (fbAppend_setInputs _ fun _ => rfl)
  case dataApplicationChecksum | dataApplicationStore =>
    exact whenSelected_setInputs (decodeCharacter_setInputs _ _ _)
  all_goals exact whenSelected_setInputs rfl

/-- R130: of a Step, its refusal of an excluded pair included. -/
theorem byteStep_setInputs (b : Byte) :
    byteStep b (s.setInputs v) = withInputs v (byteStep b s) := by
  cases hp : s.pairExists
  · rw [byteStep_of_excluded hp, byteStep_of_excluded (s := s.setInputs v) hp]
    rfl
  · rw [byteStep_eq_exec hp, byteStep_eq_exec (s := s.setInputs v) hp]
    exact handler_setInputs (decodeByte_isHandler _ _ _)

theorem nextIteration_setInputs :
    nextIteration (s.setInputs v) = (nextIteration s).setInputs v := by
  unfold nextIteration
  rw [State.setInputs_consumer]
  cases s.consumer <;> rfl

theorem consumerAdvance_setInputs :
    consumerAdvance (s.setInputs v) = withInputs v (consumerAdvance s) := by
  cases hc : s.consumer with
  | idle =>
    rw [consumerAdvance_idle hc]
    exact consumerAdvance_idle (s := s.setInputs v) hc
  | running ctx ph =>
    by_cases hf : s.fault = none
    case neg =>
      rw [consumerAdvance_halted hc hf]
      exact consumerAdvance_halted (s := s.setInputs v) hc hf
    cases ph with
    | test =>
      rw [consumerAdvance_test hc hf]
      exact consumerAdvance_test (s := s.setInputs v) hc hf
    | pop =>
      cases hq : s.q with
      | nil =>
        rw [consumerAdvance_empty hc hf hq]
        exact consumerAdvance_empty (s := s.setInputs v) hc hf hq
      | cons b rest =>
        have hstep : byteStep b ((s.setInputs v).setQ rest) =
            withInputs v (byteStep b (s.setQ rest)) := byteStep_setInputs (s := s.setQ rest) b
        rw [consumerAdvance_pop hc hf hq, consumerAdvance_pop (s := s.setInputs v) hc hf hq, hstep,
          andThen_withInputs, withInputs, andThen_assoc]
        simp only [andThen_next, nextIteration_setInputs]

/-- R91: of EnqueueByte, at, below and above capacity. -/
theorem enqueueByte_setInputs (b : Byte) (rest : List Byte) (n k : Nat) :
    enqueueByte b rest n k (s.setInputs v) = withInputs v (enqueueByte b rest n k s) := by
  unfold enqueueByte qPush
  by_cases hfull : s.q.length = s.cfg.qcap
  · simp [hfull, raiseFatal_setInputs]
    rfl
  · by_cases hroom : s.q.length < s.cfg.qcap
    · simp only [State.setInputs_q, State.setInputs_cfg, hfull, hroom, if_true, if_false]
      cases rest <;> rfl
    · simp [hfull, hroom]

theorem producerAdvance_setInputs :
    producerAdvance (s.setInputs v) = withInputs v (producerAdvance s) := by
  unfold producerAdvance
  rw [State.setInputs_producer, State.setInputs_halted]
  cases s.producer with
  | idle => rfl
  | test => cases s.halted <;> rfl
  | enqueue b rest n k => exact enqueueByte_setInputs b rest n k

theorem beginWrite_setInputs (bytes : List Byte) :
    beginWrite bytes (s.setInputs v) = withInputs v (beginWrite bytes s) := by
  unfold beginWrite
  rw [State.setInputs_producer, State.setInputs_halted]
  cases s.producer with
  | idle => cases s.halted <;> cases bytes <;> rfl
  | test | enqueue => rfl

theorem beginProcess_setInputs (ctx : Ctx) :
    beginProcess ctx (s.setInputs v) = withInputs v (beginProcess ctx s) := by
  unfold beginProcess
  rw [State.setInputs_consumer]
  cases s.consumer <;> rfl

end

/-! ### Begun and stepped (R210) -/

theorem andThen_congr {o : Out} {k l : State → Out} (h : ∀ t, o = .next t → k t = l t) :
    andThen o k = andThen o l := by
  cases o with
  | next t => exact h t rfl
  | fault | refused => rfl

/-- A run of the machine does what its first input asks for and takes the rest of the inputs from
there, where what that input does is the same whatever the inputs are. -/
theorem core_run_input {x : Input} {v : List Input} {s : State} (hp : s.pairExists = true)
    (hx : ∀ v, takeInput x (s.setInputs v) = withInputs v (takeInput x s)) (n : Nat) :
    Sys2Proof.core.run (n + 1) (s.setInputs (x :: v)) =
      andThen (takeInput x s) fun t => Sys2Proof.core.run n (t.setInputs v) := by
  have hstep : step (s.setInputs (x :: v)) = withInputs v (takeInput x s) :=
    (step_of_input (s := s.setInputs (x :: v)) hp rfl).trans (hx v)
  refine (core_run_succ n _).trans ?_
  rw [hstep]
  exact andThen_withInputs _ _

/-- A run of the machine whose inputs all ask for the same agent is a run of that agent. `P` is what
keeps the pair (`st`, `ty`) one that exists. -/
theorem core_run_replicate {x : Input} {run : Nat → State → Out} {P : State → Prop}
    (zero : ∀ s, run 0 s = .next s)
    (succ : ∀ n s, run (n + 1) s = andThen (takeInput x s) (run n))
    (hx : ∀ s v, takeInput x (s.setInputs v) = withInputs v (takeInput x s))
    (pair : ∀ s, P s → s.pairExists = true)
    (keeps : ∀ s t, takeInput x s = .next t → P s → P t) (n : Nat) {s : State} (h : P s) :
    Sys2Proof.core.run n (s.setInputs (List.replicate n x)) = run n (s.setInputs []) := by
  induction n generalizing s with
  | zero => exact (core_run_zero _).trans (zero _).symm
  | succ n ih =>
    rw [succ, hx, andThen_withInputs]
    exact (core_run_input (pair s h) (hx s) n).trans
      (andThen_congr fun t ht => ih (keeps s t ht h))

/-- The run of a transaction's begin and of its agent's steps is the begin and the agent's run. -/
theorem core_run_begun {x0 x : Input} {run : Nat → State → Out} {s : State} {n : Nat}
    (hp : s.pairExists = true)
    (hbegin : ∀ v, takeInput x0 (s.setInputs v) = withInputs v (takeInput x0 s))
    (hrun : ∀ t, takeInput x0 s = .next t →
      Sys2Proof.core.run n (t.setInputs (List.replicate n x)) = run n (t.setInputs [])) :
    Sys2Proof.core.run (1 + n) (s.setInputs (x0 :: List.replicate n x)) =
      andThen (takeInput x0 (s.setInputs [])) (run n) := by
  rw [hbegin, andThen_withInputs, Nat.add_comm]
  exact (core_run_input hp hbegin n).trans (andThen_congr hrun)

theorem beginWrite_keeps_pairExists {bytes : List Byte} {s t : State}
    (h : beginWrite bytes s = .next t) : t.pairExists = s.pairExists := by
  obtain ⟨-, ⟨-, rfl⟩ | ⟨-, -, rfl⟩ | ⟨-, b, rest, -, rfl⟩⟩ := beginWrite_eq_next h <;> rfl

/-- R62: the producer writes neither `st` nor `ty`. -/
theorem producerAdvance_keeps_pairExists {s t : State} (h : producerAdvance s = .next t) :
    t.pairExists = s.pairExists := by
  obtain ⟨hframe, -⟩ := producerTouchesOnlyQueueAndFault s t h
  rw [hframe]
  rfl

/-- R31: with parameters that meet R7 the consumer leads from a pair that exists to one that
exists. -/
theorem consumerAdvance_keeps_pairExists {s t : State} (h : consumerAdvance s = .next t)
    (hw : s.cfg.wf = true) (hp : s.pairExists = true) : t.pairExists = true := by
  obtain ⟨-, rfl⟩ | ⟨ctx, ph, -, -, rfl⟩ | ⟨ctx, -, -, rfl⟩ |
    ⟨ctx, -, -, ⟨-, rfl⟩ | ⟨b, rest, u, -, -, hstep, rfl⟩⟩ := consumerAdvance_eq_next h
  case inr.inr.inr.inr =>
    have hu : u.pairExists = true := hstep.pairExists hw hp
    unfold nextIteration
    split <;> exact hu
  all_goals exact hp

/-- A run of producer inputs is a run of the producer. -/
theorem core_run_producer (n : Nat) {s : State} (hp : s.pairExists = true) :
    Sys2Proof.core.run n (s.setInputs (List.replicate n .producer)) =
      runProducer n (s.setInputs []) :=
  core_run_replicate (x := .producer) (P := fun s => s.pairExists = true) (fun _ => rfl)
    runProducer_succ (fun _ _ => producerAdvance_setInputs) (fun _ h => h)
    (fun _ _ ht h => (producerAdvance_keeps_pairExists ht).trans h) n hp

/-- A run of consumer inputs is a run of the consumer. -/
theorem core_run_consumer (n : Nat) {s : State} (hw : s.cfg.wf = true)
    (hp : s.pairExists = true) :
    Sys2Proof.core.run n (s.setInputs (List.replicate n .consumer)) =
      runConsumer n (s.setInputs []) :=
  core_run_replicate (x := .consumer) (P := fun s => s.cfg.wf = true ∧ s.pairExists = true)
    (fun _ => rfl) runConsumer_succ (fun _ _ => consumerAdvance_setInputs) (fun _ h => h.2)
    (fun _ _ ht h => ⟨consumerAdvance_keeps_cfg ht ▸ h.1,
      consumerAdvance_keeps_pairExists ht h.1 h.2⟩) n ⟨hw, hp⟩

/-- Settles O58: the two runs take the same atomic steps, on states that differ in their inputs
alone, which no atomic step reads. -/
theorem steppedTransactionIsTheWholeOne : Obligations.SteppedTransactionIsTheWholeOne := by
  refine ⟨fun bytes s hp _ => ?_, fun ctx s hw hp _ => ?_⟩
  · exact core_run_begun (x0 := .writeBegin bytes) hp (fun _ => beginWrite_setInputs bytes)
      fun t ht => core_run_producer _ ((beginWrite_keeps_pairExists ht).trans hp)
  · refine core_run_begun (x0 := .processBegin ctx) hp (fun _ => beginProcess_setInputs ctx)
      fun t ht => ?_
    obtain ⟨-, rfl⟩ := beginProcess_eq_next ht
    exact core_run_consumer _ (s := s.setConsumer _) hw hp

end Sys2Proof.Machine
end

section
/-! PROOFS. The frame state machine (42_frame_fsm.md): what each handler of a byte does to the state
(R131 to R153), what ETX writes (R133), where Init is entered (R154), the model's own stops (R158),
and that what follows an STX depends on the bytes since then and the responses alone (R155). -/

namespace Sys2Proof.Machine

/-! ### Frame start (R131) and what Wait discards -/

/-- Settles O4: the reset of the frame registers, after the report where a frame is cut short. -/
theorem stxStartsAFrame : Obligations.StxStartsAFrame := by
  intro s hs
  refine (whenSelected_of_selects hs).trans ?_
  rw [startFrame_eq]
  by_cases hst : s.st = .wait
  · simp only [hst, if_true, List.append_nil]
  · simp only [hst, if_false, State.emit]

/-- Settles O5: each of the three bodies is the state itself. -/
theorem waitDiscardsEtxUsAndData : Obligations.WaitDiscardsEtxUsAndData :=
  ⟨fun _ => whenSelected_of_selects, fun _ => whenSelected_of_selects,
    fun _ _ => whenSelected_of_selects⟩

/-! ### Frame end (R133) -/

/-- Draws move the consumer's answers and the count of free values alone. -/
theorem State.advanceBy_eq (n : Nat) (s : State) :
    s.advanceBy n = { s with
      consumer := (s.advanceBy n).consumer, drawn := (s.advanceBy n).drawn } := by
  induction n generalizing s with
  | zero => rfl
  | succ n ih => exact ih s.advance

/-- R133: ETX ends in Wait, and stamps the third index of a Notification (R183). -/
theorem HandlerStep.etx_st_idx2 {s t : State} (h : HandlerStep s .etx t) :
    t.st = .wait ∧ t.idx2 = if s.ty = .notification then s.sc else s.idx2 := by
  cases h
  case sectionStored hi | sectionOverflow hi | firstCharacter hi | badPair hi | pairTaken hi
      | pairRejected hi => simp at hi
  all_goals simp [*]

/-- Settles O11: the columns of R36 for ETX, and its outputs with the draws that they used up. -/
theorem etxWritesOnlyStateAndThirdIndex : Obligations.EtxWritesOnlyStateAndThirdIndex := by
  intro s t h
  obtain ⟨-, hstep⟩ := handlerStep_of_exec rfl h
  obtain ⟨cs, ds, houtputs, hcs, hds, hconsumer, hdrawn⟩ := hstep.outputs
  refine ⟨cs.map .call ++ ds.map .diag, by simpa using hcs, by simpa using hds, ?_⟩
  have hcalls : callsOf (cs.map .call ++ ds.map .diag) = cs := by simp
  have happends : ¬ Instr.etx.appends := by simp [Instr.appends]
  obtain ⟨hq, hcfg, hproducer, hinputs, hresults⟩ := hstep.kept
  obtain ⟨hst, hidx2⟩ := hstep.etx_st_idx2
  obtain ⟨hfb, hfault⟩ := hstep.fb_fault_eq happends
  obtain ⟨hwc, hsc⟩ := hstep.wc_sc_eq happends nofun
  obtain ⟨hc0, hc1, hfill⟩ := hstep.decoder_eq nofun nofun
  have hty := hstep.ty_eq nofun nofun
  have hidx0 := hstep.idx0_eq nofun nofun
  have hidx1 := hstep.idx1_eq nofun nofun
  have hbase := hstep.fbBase
  rw [hcalls, State.advanceBy_eq]
  cases t
  simp only [State.mk.injEq]
  exact ⟨hcfg, hq, hst, hty, hwc, hfb, hidx0, hidx1, hidx2, hsc, hc0, hc1, hfill nofun, hfault,
    hproducer, hconsumer, hinputs, houtputs.trans (List.append_assoc _ _ _), hresults, hdrawn,
    hbase⟩

/-! ### The field separator -/

theorem unitResult_of_isErr {r : Response} (hr : r.isErr = true) :
    unitResult r = .err ⟨r.value⟩ := by
  simp [unitResult, hr]

/-- Settles O12: the one call's response decides. -/
theorem applicationSeparatorKillsPriorLoad : Obligations.ApplicationSeparatorKillsPriorLoad := by
  intro s r hs ha
  have hexec : exec .usInitApplication s = _ :=
    (whenSelected_of_selects hs).trans (callThen_of_answer ha)
  refine ⟨fun hr => hexec.trans ?_, fun hr => hexec.trans ?_⟩
  · rw [unitResult_of_not_isErr hr]
    rfl
  · rw [unitResult_of_isErr hr]
    simp [abortFrame, State.emit, State.setSt, State.addCall]

/-- Settles O13: each body writes `st` alone, and US in Payload writes there what it is. -/
theorem separatorMovesToNextField : Obligations.SeparatorMovesToNextField := by
  refine ⟨fun _ => whenSelected_of_selects, fun _ => whenSelected_of_selects,
    fun _ => whenSelected_of_selects, fun s hs => ?_, fun _ => whenSelected_of_selects⟩
  have hst : s.st = .payload := of_decide_eq_true (State.selects_iff.1 hs).2.2.1
  refine (whenSelected_of_selects hs).trans ?_
  rw [← hst]
  rfl

/-- Settles O14: each body is `abortFrame` with the event named. -/
theorem misplacedSeparatorAbortsFrame : Obligations.MisplacedSeparatorAbortsFrame :=
  ⟨fun _ => whenSelected_of_selects, fun _ => whenSelected_of_selects,
    fun _ => whenSelected_of_selects⟩

/-- Settles O15: each body writes its index and `st`. -/
theorem separatorRecordsSectionIndex : Obligations.SeparatorRecordsSectionIndex :=
  ⟨fun _ => whenSelected_of_selects, fun _ => whenSelected_of_selects⟩

/-! ### Data bytes -/

/-- Settles O16: the class of the byte decides. -/
theorem dataByteInInitIsClassified : Obligations.DataByteInInitIsClassified := by
  intro d s hs
  refine ⟨fun ht => (whenSelected_of_selects hs).trans (if_neg ht), fun ht => ?_⟩
  refine (whenSelected_of_selects hs).trans ((if_pos ht).trans ?_)
  rw [ht]
  rfl

theorem fbAppend_of_room {b : Byte} {stored : State → State} {s : State}
    (h : s.wc < s.cfg.fbcap) : fbAppend b stored s =
      .next (stored ((s.setFb (Memory.write s.fb s.wc b)).setWc (s.wc + 1))) :=
  fbAppend_eq_next.2 (.inr ⟨h, rfl⟩)

theorem fbAppend_of_full {b : Byte} {stored : State → State} {s : State}
    (h : s.wc = s.cfg.fbcap) :
    fbAppend b stored s = .next (raiseFatal (.frameBufferOverflow b) s) :=
  fbAppend_eq_next.2 (.inl ⟨h, rfl⟩)

theorem fbAppend_of_above {b : Byte} {stored : State → State} {s : State}
    (h : s.cfg.fbcap < s.wc) : fbAppend b stored s = .fault (.frameBufferIndex s.wc) :=
  fbAppend_eq_fault.2 ⟨h, rfl⟩

/-- Settles O17: the append, below capacity and at it. -/
theorem payloadByteIsCaptured : Obligations.PayloadByteIsCaptured := by
  intro d s hs
  have hexec : exec (.dataPayload d) s = fbAppend d id s := whenSelected_of_selects hs
  refine ⟨fun hw => hexec.trans (fbAppend_of_room hw), fun hw => ?_⟩
  rw [hexec, fbAppend_of_full hw, raiseFatal_eq]

/-- R149 to R151: in a Notification's fields a data byte is captured alike. -/
theorem exec_eq_captureSection {d : Byte} {i : Instr} {s : State}
    (hi : i = .dataNotificationSource d ∨ i = .dataNotificationTitle d ∨
      i = .dataNotificationBody d) (hs : s.selects i = true) :
    exec i s = captureSection d s := by
  obtain rfl | rfl | rfl := hi <;> exact whenSelected_of_selects hs

/-- Settles O18: the append, below capacity and at it. -/
theorem notificationByteIsCaptured : Obligations.NotificationByteIsCaptured := by
  intro d i s hi hs
  refine ⟨fun hw => (exec_eq_captureSection hi hs).trans (fbAppend_of_room hw), fun hw => ?_⟩
  rw [exec_eq_captureSection hi hs, captureSection, fbAppend_of_full hw, raiseFatal_eq]

/-- R113, R152, R153: a pair that is not hex ends the frame. -/
theorem decodeCharacter_badPair {s : State} {d : Byte} {call : Byte → Result Unit → Call}
    {reject : Byte → CollabError → Diag} (h : s.hxFill = true) (hp : hexPair s.hxC0 d = none) :
    decodeCharacter d call reject s =
      .next (abortFrame (.invalidHex s.hxC0 d) ((s.setHxC1 d).setHxFill false)) := by
  simp only [decodeCharacter, feed_second h, hp]
  rfl

/-- R113, R152, R153: a pair's value goes to the sink, and a rejection ends the frame. -/
theorem decodeCharacter_pair {s : State} {d v : Byte} {call : Byte → Result Unit → Call}
    {reject : Byte → CollabError → Diag} {r : Response} (h : s.hxFill = true)
    (hv : hexPair s.hxC0 d = some v) (ha : s.answer = some r) :
    decodeCharacter d call reject s = .next { s.advance with
      hxC1 := d, hxFill := false,
      st := if r.isErr then .wait else s.st,
      outputs := s.outputs ++ [.call (call v (if r.isErr then .err ⟨r.value⟩ else .ok ()))] ++
        (if r.isErr then [.diag (reject v ⟨r.value⟩)] else []) } := by
  cases hr : r.isErr with
  | false =>
    rw [decodeCharacter_second h hv ha hr]
    simp only [Bool.false_eq_true, if_false, List.append_nil]
    rfl
  | true =>
    have ha' : ((s.setHxC1 d).setHxFill false).answer = some r := ha
    simp only [decodeCharacter, feed_second h, hv]
    refine (callThen_of_answer ha').trans ?_
    rw [unitResult_of_isErr hr]
    rfl

/-- Settles O19: the decoder's three ways to end, with `write_checksum_byte` as the sink. -/
theorem checksumCharacterIsDecoded : Obligations.ChecksumCharacterIsDecoded := by
  intro d s hs
  have hexec : exec (.dataApplicationChecksum d) s = _ := whenSelected_of_selects hs
  exact ⟨fun hf => hexec.trans (decodeCharacter_first hf),
    fun hf hp => hexec.trans (decodeCharacter_badPair hf hp),
    fun _ _ hf hv ha => hexec.trans (decodeCharacter_pair hf hv ha)⟩

/-- Settles O20: the decoder's three ways to end, with `write_ram_byte` as the sink. -/
theorem firmwareCharacterIsDecoded : Obligations.FirmwareCharacterIsDecoded := by
  intro d s hs
  have hexec : exec (.dataApplicationStore d) s = _ := whenSelected_of_selects hs
  exact ⟨fun hf => hexec.trans (decodeCharacter_first hf),
    fun hf hp => hexec.trans (decodeCharacter_badPair hf hp),
    fun _ _ hf hv ha => hexec.trans (decodeCharacter_pair hf hv ha)⟩

/-! ### Where Init is entered (R154) -/

/-- R154: from another frame state no handler but STX's leads to Init. -/
theorem HandlerStep.st_ne_init {i : Instr} {s t : State} (h : HandlerStep s i t)
    (hi : i ≠ .stx) (hs : s.st ≠ .init) : t.st ≠ .init := by
  cases h
  case stxIdle | stxMidFrame => exact absurd rfl hi
  all_goals simp [abortFrame, raiseFatal_eq, hs]

/-- Settles O49: the column `st` of R154, and the column `ty` of R36. -/
theorem initIsEnteredOnlyByStx : Obligations.InitIsEnteredOnlyByStx := by
  intro i s t hi h
  obtain ⟨-, hstep⟩ := handlerStep_of_exec hi h
  refine ⟨fun hs ht => ?_, fun hty => ?_⟩
  · by_contra hstx
    exact hstep.st_ne_init hstx hs ht
  · by_contra hno
    obtain ⟨hstx, hinit⟩ := not_or.1 hno
    exact hty (hstep.ty_eq hstx fun d hd => hinit ⟨d, hd⟩)

/-! ### The model's own stops (R158, logs 12, 13, 17) -/

/-- Log 12: every byte handler runs where the operation map selects it, and nowhere else. -/
theorem exec_of_not_selects {i : Instr} {s : State} (hi : i.isHandler = true)
    (h : s.selects i = false) : exec i s = .refused .notSelected := by
  cases i
  case write | process | reset => cases hi
  all_goals exact whenSelected_of_not h

/-- R53: the appends stop above `FBCAP`. -/
theorem exec_append_of_above {d : Byte} {i : Instr} {s : State}
    (hi : i = .dataPayload d ∨ i = .dataNotificationSource d ∨ i = .dataNotificationTitle d ∨
      i = .dataNotificationBody d) (hs : s.selects i = true) (hw : s.cfg.fbcap < s.wc) :
    exec i s = .fault (.frameBufferIndex s.wc) := by
  obtain rfl | hi := hi
  · exact (whenSelected_of_selects hs).trans (fbAppend_of_above hw)
  · exact (exec_eq_captureSection hi hs).trans (fbAppend_of_above hw)

/-- R53: the dispatches that read the frame's bytes stop above `FBCAP`. -/
theorem dispatch_of_above {s : State} (hw : s.cfg.fbcap < s.wc)
    (ht : s.ty = .notification ∨ s.ty = .syscall ∨
      ∃ k op, s.ty = .ext k ∧ extTarget s.cfg.extDispatch k = some op) :
    dispatch s = .fault (.frameBufferIndex s.cfg.fbcap) := by
  obtain ht | ht | ⟨k, op, ht, hop⟩ := ht
  · simp only [dispatch, ht]
    unfold dispatchNotification
    exact withFrameBytes_of_lt (s := s.setIdx2 s.sc) hw
  · simp only [dispatch, ht]
    exact withFrameBytes_of_lt hw
  · simp only [dispatch, ht, dispatchExt, hop]
    exact withFrameBytes_of_lt hw

/-- R52: a push stops above `QCAP`. -/
theorem producerAdvance_of_above {s : State} {b : Byte} {rest : List Byte} {n k : Nat}
    (hp : s.producer = .enqueue b rest n k) (hq : s.cfg.qcap < s.q.length) :
    producerAdvance s = .fault .queueCapacity := by
  have hpush : qPush b s = .fault .queueCapacity := qPush_eq_fault.2 ⟨hq.le, rfl⟩
  simp [producerAdvance, hp, enqueueByte, hq.ne', hpush]

/-- Settles O35: one lemma for each of the stops. -/
theorem unselectedExcludedAndAbsentStop : Obligations.UnselectedExcludedAndAbsentStop := by
  refine ⟨fun i s => exec_of_not_selects, fun s => step_of_excluded,
    fun b s hp => byteStep_of_excluded hp b, fun s k ht hk => ?excluded,
    fun d i s => exec_append_of_above, fun s hs ht hw => ?dispatch,
    fun s b rest n k => producerAdvance_of_above⟩
  case excluded =>
    rw [State.pairExists, ht]
    exact pairOk_ext_eq_false hk s.st
  case dispatch =>
    exact (whenSelected_of_selects hs).trans (dispatch_of_above (s := s.setSt .wait) hw ht)

/-! ### The step at a pop (R130) -/

/-- R130, R95: the pop runs the operation that its byte selects. -/
theorem consumerAdvance_pop_eq_exec {s : State} {ctx : Ctx} {b : Byte} {rest : List Byte}
    (hp : s.pairExists = true) (hf : s.fault = none) (hc : s.consumer = .running ctx .pop)
    (hq : s.q = b :: rest) :
    consumerAdvance s = andThen (exec (decodeByte s.st s.ty b) (s.setQ rest))
      (fun t => .next (nextIteration t)) := by
  rw [consumerAdvance_pop hc hf hq]
  exact congrArg (andThen · _) (byteStep_eq_exec (s := s.setQ rest) hp b)

/-- Settles O56: whichever way the consumer comes to move, the step is its pop. -/
theorem stepRunsDecodedByte : Obligations.StepRunsDecodedByte := by
  intro s ctx b rest hp hf hc hq
  refine ⟨fun ins hi => ?_, fun hi hidle => ?_⟩
  · exact (step_of_input hp hi).trans
      (consumerAdvance_pop_eq_exec (s := s.setInputs ins) hp hf hc hq)
  · rw [step_of_no_input hp hi, goOn_of_producer_idle hidle]
    exact consumerAdvance_pop_eq_exec hp hf hc hq

/-! ### A frame since its STX (R155) -/

/-- The states `s` and `t` agree in all that a Step can read after an STX, and in the outputs since
`a` and `b` had come out: the parameters, the PROCESS and its draws, the frame registers, the
frame's bytes as far as `wc`, and the decoder's first character where it pends (R25, R28). -/
structure SameFrame (a b : List Output) (s t : State) : Prop where
  cfg : s.cfg = t.cfg
  consumer : s.consumer = t.consumer
  drawn : s.drawn = t.drawn
  st : s.st = t.st
  ty : s.ty = t.ty
  wc : s.wc = t.wc
  idx0 : s.idx0 = t.idx0
  idx1 : s.idx1 = t.idx1
  idx2 : s.idx2 = t.idx2
  sc : s.sc = t.sc
  hxFill : s.hxFill = t.hxFill
  cursor : s.wc ≤ s.cfg.fbcap
  stored : ∀ i < s.wc, s.fbByte i = t.fbByte i
  pending : s.hxFill = true → s.hxC0 = t.hxC0
  grown : ∃ es, s.outputs = a ++ es ∧ t.outputs = b ++ es

/-- R131: whatever two frames were before, what STX leaves of them agrees. -/
theorem sameFrame_startFrame {a b : List Output} {s t : State} (hcfg : s.cfg = t.cfg)
    (hconsumer : s.consumer = t.consumer) (hdrawn : s.drawn = t.drawn)
    (hgrown : ∃ es, s.outputs = a ++ es ∧ t.outputs = b ++ es) :
    SameFrame a b (startFrame s) (startFrame t) := by
  rw [startFrame_eq, startFrame_eq]
  exact {
    cfg := hcfg
    consumer := hconsumer
    drawn := hdrawn
    st := rfl
    ty := rfl
    wc := rfl
    idx0 := rfl
    idx1 := rfl
    idx2 := rfl
    sc := rfl
    hxFill := rfl
    cursor := Nat.zero_le _
    stored := fun i hi => absurd hi (Nat.not_lt_zero i)
    pending := nofun
    grown := hgrown }

section
variable {a b : List Output} {s t : State} (h : SameFrame a b s t)
include h

theorem SameFrame.frameBytes : s.frameBytes = t.frameBytes := by
  unfold State.frameBytes
  rw [← h.wc]
  exact List.map_congr_left fun i hi => h.stored i (List.mem_range.1 hi)

theorem SameFrame.frameView : s.frameView = t.frameView := by
  have hpending : (if s.hxFill then some s.hxC0 else none) =
      if t.hxFill then some t.hxC0 else none := by
    rw [← h.hxFill]
    cases hf : s.hxFill with
    | false => rfl
    | true => rw [h.pending hf]
  simp only [State.frameView, h.st, h.ty, h.frameBytes, h.idx0, h.idx1, h.idx2, h.sc, hpending]

theorem SameFrame.answer : s.answer = t.answer := State.answer_congr h.consumer h.drawn

theorem SameFrame.ctxId : s.ctxId = t.ctxId := by
  simp only [State.ctxId, h.consumer]

theorem SameFrame.pairExists : s.pairExists = t.pairExists := by
  simp only [State.pairExists, h.cfg, h.st, h.ty]

theorem SameFrame.selects (i : Instr) : s.selects i = t.selects i := by
  simp only [State.selects, State.consuming, h.consumer, h.pairExists, h.st, h.ty]

/-! ### The agreement under the updates -/

theorem SameFrame.setSt (v : FrameState) : SameFrame a b (s.setSt v) (t.setSt v) :=
  { h with st := rfl }

theorem SameFrame.setTy (v : MsgType) : SameFrame a b (s.setTy v) (t.setTy v) :=
  { h with ty := rfl }

theorem SameFrame.setIdx0 : SameFrame a b (s.setIdx0 s.sc) (t.setIdx0 t.sc) :=
  { h with idx0 := h.sc }

theorem SameFrame.setIdx1 : SameFrame a b (s.setIdx1 s.sc) (t.setIdx1 t.sc) :=
  { h with idx1 := h.sc }

theorem SameFrame.setIdx2 : SameFrame a b (s.setIdx2 s.sc) (t.setIdx2 t.sc) :=
  { h with idx2 := h.sc }

theorem SameFrame.advanceSection : SameFrame a b (s.setSc (s.sc + 1)) (t.setSc (t.sc + 1)) :=
  { h with sc := congrArg (· + 1) h.sc }

theorem SameFrame.advance : SameFrame a b s.advance t.advance :=
  { h with
    consumer := congrArg dropAnswer h.consumer
    drawn := by simp only [State.advance, h.consumer, h.drawn] }

theorem SameFrame.addCall {c c' : Call} (hc : c = c') :
    SameFrame a b (s.addCall c) (t.addCall c') := by
  obtain ⟨es, hs, ht⟩ := h.grown
  subst hc
  exact { h with grown := ⟨es ++ [.call c], by simp [hs], by simp [ht]⟩ }

theorem SameFrame.emit {d d' : Diag} (hd : d = d') : SameFrame a b (s.emit d) (t.emit d') := by
  obtain ⟨es, hs, ht⟩ := h.grown
  subst hd
  exact { h with grown := ⟨es ++ [.diag d], by simp [hs], by simp [ht]⟩ }

theorem SameFrame.abortFrame {d d' : Diag} (hd : d = d') :
    SameFrame a b (abortFrame d s) (abortFrame d' t) :=
  (h.setSt .wait).emit hd

theorem SameFrame.startFrame : SameFrame a b (startFrame s) (startFrame t) :=
  sameFrame_startFrame h.cfg h.consumer h.drawn h.grown

/-- The fault register is none of the frame's. -/
theorem SameFrame.raiseFatal (f : FatalFault) :
    SameFrame a b (raiseFatal f s) (raiseFatal f t) := by
  rw [raiseFatal_eq, raiseFatal_eq]
  exact { h with }

/-- R147: the same byte is stored at the same index, whatever lies above it. -/
theorem SameFrame.store (d : Byte) (hw : s.wc < s.cfg.fbcap) :
    SameFrame a b ((s.setFb (Memory.write s.fb s.wc d)).setWc (s.wc + 1))
      ((t.setFb (Memory.write t.fb t.wc d)).setWc (t.wc + 1)) :=
  { h with
    wc := congrArg (· + 1) h.wc
    cursor := hw
    stored := by
      intro i hi
      rw [State.setWc_fbByte, State.setWc_fbByte, ← h.wc]
      obtain rfl | hne := eq_or_ne i s.wc
      · rw [State.fbByte_write_same, State.fbByte_write_same]
      · have hlt : i < s.wc := Nat.lt_of_le_of_ne (Nat.lt_succ_iff.1 hi) hne
        rw [State.fbByte_write_other s d hne, State.fbByte_write_other t d hne]
        exact h.stored i hlt }

theorem SameFrame.feedFirst (d : Byte) :
    SameFrame a b ((s.setHxC0 d).setHxFill true) ((t.setHxC0 d).setHxFill true) :=
  { h with hxFill := rfl, pending := fun _ => rfl }

theorem SameFrame.feedSecond (d : Byte) :
    SameFrame a b ((s.setHxC1 d).setHxFill false) ((t.setHxC1 d).setHxFill false) :=
  { h with hxFill := rfl, pending := nofun }

end

/-! ### The agreement under the handlers -/

/-- Two operations end alike: in states that agree, or refused with one reason. -/
inductive SameEnd (a b : List Output) : Out → Out → Prop where
  | next {s t : State} (h : SameFrame a b s t) : SameEnd a b (.next s) (.next t)
  | refused (r : Refusal) : SameEnd a b (.refused r) (.refused r)

section
variable {a b : List Output} {s t : State}

theorem sameEnd_andThen {o o' : Out} {k k' : State → Out} (ho : SameEnd a b o o')
    (hk : ∀ u v, SameFrame a b u v → SameEnd a b (k u) (k' v)) :
    SameEnd a b (andThen o k) (andThen o' k') := by
  cases ho with
  | next huv => exact hk _ _ huv
  | refused r => exact .refused r

variable (h : SameFrame a b s t)
include h

theorem SameFrame.whenSelected {i : Instr} {o o' : Out} (ho : SameEnd a b o o') :
    SameEnd a b (whenSelected i s o) (whenSelected i t o') := by
  unfold Machine.whenSelected
  rw [← h.selects i]
  split
  · exact ho
  · exact .refused _

/-- R186: both draw the same response, or both collaborators re-enter. -/
theorem SameFrame.callThen {k k' : Response → State → Out}
    (hk : ∀ r, SameEnd a b (k r s.advance) (k' r t.advance)) :
    SameEnd a b (callThen s k) (callThen t k') := by
  unfold Machine.callThen
  rw [← h.answer]
  cases s.answer with
  | some r => exact hk r
  | none => exact .refused _

theorem SameFrame.withFrameBytes {k k' : List Byte → Out}
    (hk : ∀ bytes, SameEnd a b (k bytes) (k' bytes)) :
    SameEnd a b (withFrameBytes s k) (withFrameBytes t k') := by
  have hcursor : t.wc ≤ t.cfg.fbcap := h.wc ▸ h.cfg ▸ h.cursor
  rw [withFrameBytes_of_le h.cursor, withFrameBytes_of_le hcursor, h.frameBytes]
  exact hk _

theorem SameFrame.fbAppend (d : Byte) {stored : State → State}
    (hstored : ∀ u v, SameFrame a b u v → SameFrame a b (stored u) (stored v)) :
    SameEnd a b (fbAppend d stored s) (fbAppend d stored t) := by
  obtain hw | hw := h.cursor.eq_or_lt
  · rw [fbAppend_of_full hw, fbAppend_of_full (h.wc ▸ h.cfg ▸ hw)]
    exact .next (h.raiseFatal _)
  · rw [fbAppend_of_room hw, fbAppend_of_room (h.wc ▸ h.cfg ▸ hw)]
    exact .next (hstored _ _ (h.store d hw))

theorem SameFrame.captureSection (d : Byte) :
    SameEnd a b (captureSection d s) (captureSection d t) :=
  h.fbAppend d fun _ _ huv => huv.advanceSection

/-- R152, R153: a pair is made of the pending character and `d` in both. -/
theorem SameFrame.decodeCharacter (d : Byte) (call : Byte → Result Unit → Call)
    (reject : Byte → CollabError → Diag) :
    SameEnd a b (decodeCharacter d call reject s) (decodeCharacter d call reject t) := by
  cases hf : s.hxFill with
  | false =>
    rw [decodeCharacter_first hf, decodeCharacter_first (h.hxFill ▸ hf)]
    exact .next (h.feedFirst d)
  | true =>
    have hf' : t.hxFill = true := h.hxFill ▸ hf
    have hc0 : s.hxC0 = t.hxC0 := h.pending hf
    cases hp : hexPair s.hxC0 d with
    | none =>
      rw [decodeCharacter_badPair hf hp, decodeCharacter_badPair hf' (hc0 ▸ hp), hc0]
      exact .next ((h.feedSecond d).abortFrame rfl)
    | some v =>
      have hp' : hexPair t.hxC0 d = some v := hc0 ▸ hp
      simp only [Machine.decodeCharacter, feed_second hf, feed_second hf', hp, hp']
      refine (h.feedSecond d).callThen fun r => ?_
      cases unitResult r with
      | ok => exact .next ((h.feedSecond d).advance.addCall rfl)
      | err => exact .next (((h.feedSecond d).advance.addCall rfl).abortFrame rfl)

/-- R180: the Dispatcher reads the type, the frame's bytes, the indices and the context alone. -/
theorem SameFrame.dispatch : SameEnd a b (dispatch s) (dispatch t) := by
  unfold Machine.dispatch
  rw [← h.ty]
  cases s.ty with
  | unknown => exact .next h
  | application =>
    refine h.callThen fun r => ?_
    cases unitResult r with
    | ok => exact .next (h.advance.addCall rfl)
    | err =>
      exact (h.advance.addCall rfl).callThen fun _ =>
        .next (((h.advance.addCall rfl).advance.addCall rfl).emit rfl)
  | notification =>
    show SameEnd a b (dispatchNotification s) (dispatchNotification t)
    unfold dispatchNotification
    refine h.setIdx2.withFrameBytes fun bytes => h.setIdx2.callThen fun r => ?_
    have hcall : SameFrame a b
        ((s.setIdx2 s.sc).advance.addCall (.add bytes s.idx0 s.idx1 s.sc (unitResult r)))
        ((t.setIdx2 t.sc).advance.addCall (.add bytes t.idx0 t.idx1 t.sc (unitResult r))) :=
      h.setIdx2.advance.addCall (by rw [h.idx0, h.idx1, h.sc])
    cases hr : unitResult r <;> rw [hr] at hcall
    · exact .next hcall
    · exact .next (hcall.emit rfl)
  | syscall =>
    refine h.withFrameBytes fun text => h.callThen fun r => ?_
    cases parseResult r with
    | ok cmd =>
      have hparsed := h.advance.addCall (c := .parse text (.ok cmd)) rfl
      exact hparsed.callThen fun _ =>
        .next (hparsed.advance.addCall (congrArg (Call.execute cmd) hparsed.advance.ctxId))
    | err => exact .next ((h.advance.addCall rfl).emit rfl)
  | ext k =>
    show SameEnd a b (dispatchExt k s) (dispatchExt k t)
    unfold dispatchExt
    rw [← h.cfg]
    cases extTarget s.cfg.extDispatch k with
    | none => exact .refused _
    | some op =>
      exact h.withFrameBytes fun bytes => h.callThen fun _ => .next (h.advance.addCall rfl)

/-- Every byte handler reads no more than the agreement says. -/
theorem SameFrame.exec {i : Instr} (hi : i.isHandler = true) :
    SameEnd a b (exec i s) (exec i t) := by
  cases i
  case write | process | reset => cases hi
  case stx =>
    refine h.whenSelected (.next ?_)
    rw [← h.st]
    split
    · exact h.startFrame
    · exact (h.emit rfl).startFrame
  case etxWait | usWait | dataWait => exact h.whenSelected (.next h)
  case etx => exact h.whenSelected (h.setSt .wait).dispatch
  case usInitUnknown | usApplicationStore | usNotificationBody =>
    exact h.whenSelected (.next (h.abortFrame rfl))
  case usInitApplication =>
    refine h.whenSelected (h.callThen fun r => ?_)
    cases unitResult r with
    | ok => exact .next ((h.advance.addCall rfl).setSt _)
    | err => exact .next ((h.advance.addCall rfl).abortFrame rfl)
  case usInitNotification | usInitSyscall | usInitExt | usPayload | usApplicationChecksum =>
    exact h.whenSelected (.next (h.setSt _))
  case usNotificationSource => exact h.whenSelected (.next (h.setIdx0.setSt _))
  case usNotificationTitle => exact h.whenSelected (.next (h.setIdx1.setSt _))
  case dataInit d =>
    refine h.whenSelected ?_
    rw [← h.cfg]
    by_cases ht : classify s.cfg d = .unknown <;> simp only [ht, if_true, if_false]
    · exact .next ((h.setTy _).abortFrame rfl)
    · exact .next (h.setTy _)
  case dataPayload d => exact h.whenSelected (h.fbAppend d fun _ _ huv => huv)
  case dataNotificationSource | dataNotificationTitle | dataNotificationBody =>
    exact h.whenSelected (h.captureSection _)
  case dataApplicationChecksum | dataApplicationStore =>
    exact h.whenSelected (h.decodeCharacter _ _ _)

theorem SameFrame.byteStep (c : Byte) : SameEnd a b (byteStep c s) (byteStep c t) := by
  have hpair : s.pairExists = t.pairExists := h.pairExists
  cases hp : s.pairExists with
  | false =>
    rw [byteStep_of_excluded hp, byteStep_of_excluded (hpair ▸ hp)]
    exact .refused _
  | true =>
    rw [byteStep_eq_exec hp, byteStep_eq_exec (hpair ▸ hp), ← h.st, ← h.ty]
    exact h.exec (decodeByte_isHandler _ _ _)

end

theorem SameFrame.stepBytes {a b : List Output} {s t : State} (h : SameFrame a b s t)
    (bs : List Byte) : SameEnd a b (stepBytes bs s) (stepBytes bs t) := by
  induction bs generalizing s t with
  | nil => exact .next h
  | cons c bs ih => exact sameEnd_andThen (h.byteStep c) fun _ _ huv => ih huv

/-- R131: STX ends at the start of a frame, on a state that differs from `s` in its outputs
alone. -/
theorem eq_startFrame_of_exec_stx {s u : State} (h : exec .stx s = .next u) :
    u = startFrame { s with outputs := u.outputs } := by
  obtain ⟨hs, -⟩ := handlerStep_of_exec rfl h
  cases h.symm.trans (stxStartsAFrame s hs)
  rw [startFrame_eq]

/-- Settles O51: STX leaves two frames that agree, every Step keeps the agreement, and frames that
agree have one view. -/
theorem frameIsAFunctionOfBytesSinceStx : Obligations.FrameIsAFunctionOfBytesSinceStx := by
  intro s1 s2 u1 u2 bs hcfg hconsumer hdrawn h1 h2
  have hstart : SameFrame u1.outputs u2.outputs u1 u2 := by
    have hsame := sameFrame_startFrame (s := { s1 with outputs := u1.outputs })
      (t := { s2 with outputs := u2.outputs }) hcfg hconsumer hdrawn
      ⟨[], (List.append_nil _).symm, (List.append_nil _).symm⟩
    rwa [← eq_startFrame_of_exec_stx h1, ← eq_startFrame_of_exec_stx h2] at hsame
  have hend := hstart.stepBytes bs
  generalize stepBytes bs u1 = o1, stepBytes bs u2 = o2 at hend ⊢
  cases hend with
  | next h =>
    obtain ⟨es, ht1, ht2⟩ := h.grown
    exact .inl ⟨_, _, es, rfl, rfl, h.frameView, ht1, ht2⟩
  | refused r => exact .inr ⟨r, rfl, rfl⟩

end Sys2Proof.Machine
end

section
/-! PROOFS. The Dispatcher (43_dispatch.md): what ETX does with a frame of each type (R181 to R185),
that a completed frame is dispatched once and nothing else is (R191), and what a whole Syscall or
Notification frame hands over, byte for byte (R183, R184). -/

namespace Sys2Proof.Machine

/-! ### ETX, by the type of the frame (R180 to R185) -/

theorem parseResult_of_not_isErr {r : Response} (hr : r.isErr = false) :
    parseResult r = .ok ⟨r.value⟩ := by
  simp [parseResult, hr]

theorem parseResult_of_isErr {r : Response} (hr : r.isErr = true) :
    parseResult r = .err ⟨r.value⟩ := by
  simp [parseResult, hr]

section
variable {s : State} (hs : s.selects .etx = true)
include hs

/-- R133: ETX dispatches the frame from Wait. -/
theorem exec_etx : exec .etx s = dispatch (s.setSt .wait) := whenSelected_of_selects hs

theorem exec_etx_of_unknown (ht : s.ty = .unknown) : exec .etx s = .next (s.setSt .wait) := by
  rw [exec_etx hs, dispatch, State.setSt_ty, ht]

theorem exec_etx_of_application (ht : s.ty = .application) :
    exec .etx s = dispatchApplication (s.setSt .wait) := by
  rw [exec_etx hs, dispatch, State.setSt_ty, ht]

theorem exec_etx_of_notification (ht : s.ty = .notification) :
    exec .etx s = dispatchNotification (s.setSt .wait) := by
  rw [exec_etx hs, dispatch, State.setSt_ty, ht]

theorem exec_etx_of_syscall (ht : s.ty = .syscall) :
    exec .etx s = dispatchSyscall (s.setSt .wait) := by
  rw [exec_etx hs, dispatch, State.setSt_ty, ht]

theorem exec_etx_of_ext {k : Nat} (ht : s.ty = .ext k) :
    exec .etx s = dispatchExt k (s.setSt .wait) := by
  rw [exec_etx hs, dispatch, State.setSt_ty, ht]

end

/-- Settles O6: the Dispatcher has no collaborator for the type Unknown. -/
theorem etxOfUnknownFrameDispatchesNothing : Obligations.EtxOfUnknownFrameDispatchesNothing :=
  fun _ hs ht => exec_etx_of_unknown hs ht

/-- Settles O7: the response to `verify` decides whether `status` is called. -/
theorem etxVerifiesApplicationFrame : Obligations.EtxVerifiesApplicationFrame := by
  intro s r hs ht ha
  have hverify : exec .etx s = _ :=
    (exec_etx_of_application hs ht).trans (callThen_of_answer (s := s.setSt .wait) ha)
  refine ⟨fun hr => hverify.trans ?_, fun r' hr ha' => hverify.trans ?_⟩
  · rw [unitResult_of_not_isErr hr]
    rfl
  · rw [unitResult_of_isErr hr, List.append_cons, List.append_cons]
    exact callThen_of_answer
      (s := (s.setSt .wait).advance.addCall (.verify (.err ⟨r.value⟩))) ha'

/-- Settles O8: the third index is stamped before the call, whose response decides the event. -/
theorem etxAddsNotificationFrame : Obligations.EtxAddsNotificationFrame := by
  intro s r hs ht hw ha
  refine (exec_etx_of_notification hs ht).trans ?_
  unfold dispatchNotification
  refine (withFrameBytes_of_le (s := (s.setSt .wait).setIdx2 s.sc) hw).trans
    ((callThen_of_answer (s := (s.setSt .wait).setIdx2 s.sc) ha).trans ?_)
  cases hr : r.isErr with
  | false =>
    rw [unitResult_of_not_isErr hr]
    simp only [Bool.false_eq_true, if_false, List.append_nil]
    rfl
  | true =>
    rw [unitResult_of_isErr hr]
    rfl

/-- Settles O9: the response to `parse` decides whether `execute` is called. -/
theorem etxParsesSyscallFrame : Obligations.EtxParsesSyscallFrame := by
  intro s r hs ht hw ha
  have hparse : exec .etx s = _ :=
    (exec_etx_of_syscall hs ht).trans
      ((withFrameBytes_of_le (s := s.setSt .wait) hw).trans
        (callThen_of_answer (s := s.setSt .wait) ha))
  refine ⟨fun r' hr ha' => hparse.trans ?_, fun hr => hparse.trans ?_⟩
  · have hid : ((s.setSt .wait).advance.addCall
        (.parse s.frameBytes (.ok ⟨r.value⟩))).advance.ctxId = s.ctxId :=
      (State.advance_ctxId _).trans (State.advance_ctxId s)
    rw [parseResult_of_not_isErr hr, List.append_cons, ← hid]
    exact callThen_of_answer
      (s := (s.setSt .wait).advance.addCall (.parse s.frameBytes (.ok ⟨r.value⟩))) ha'
  · rw [parseResult_of_isErr hr, List.append_cons]
    rfl

/-- Settles O10: the configuration's name for the call decides, and the call's response does not. -/
theorem etxHandsExtensionFrameOver : Obligations.EtxHandsExtensionFrameOver := by
  intro s k hs ht
  have hext := exec_etx_of_ext hs ht
  refine ⟨fun op r hop hw ha => hext.trans ?_, fun hnone => hext.trans ?_⟩
  · simp only [dispatchExt, State.setSt_cfg, hop]
    exact (withFrameBytes_of_le (s := s.setSt .wait) hw).trans
      (callThen_of_answer (s := s.setSt .wait) ha)
  · simp only [dispatchExt, State.setSt_cfg, hnone]

/-! ### One dispatch for each completed frame (R191) -/

/-- The call is the one that hands a frame of type `ty` over (R182 to R185). -/
def DispatchesFrameOf (ty : MsgType) (c : Call) : Prop :=
  match ty with
  | .unknown => False
  | .application => ∃ r, c = .verify r
  | .notification => ∃ bytes a0 a1 a2 r, c = .add bytes a0 a1 a2 r
  | .syscall => ∃ text r, c = .parse text r
  | .ext k => ∃ op bytes, c = .extDispatch k op bytes

section
variable {i : Instr} {s t : State}

theorem State.dispatches_of_calls {cs : List Call} (h : t.calls = s.calls ++ cs) :
    t.dispatches = s.dispatches ++ cs.filter isDispatchCall := by
  rw [State.dispatches, State.dispatches, h, List.filter_append]

/-- R191: ETX of a frame of a known type makes the call of that type, and no second dispatch. -/
theorem HandlerStep.dispatches_of_etx (h : HandlerStep s .etx t) (ht : s.ty ≠ .unknown) :
    ∃ c, t.dispatches = s.dispatches ++ [c] ∧ DispatchesFrameOf s.ty c := by
  cases h
  case etxUnknown hty => exact absurd hty ht
  case etxVerified hty _ _ _ =>
    exact ⟨_, State.dispatches_of_calls (cs := [.verify (.ok ())]) (by simp), hty ▸ ⟨_, rfl⟩⟩
  case etxVerifyFailed hty _ r' e _ _ _ =>
    exact ⟨_, State.dispatches_of_calls (cs := [.verify (.err e), .status (statusResult r')])
      (by simp), hty ▸ ⟨_, rfl⟩⟩
  case etxAdded hty _ _ _ _ =>
    exact ⟨_, State.dispatches_of_calls (cs := [.add s.frameBytes s.idx0 s.idx1 s.sc (.ok ())])
      (by simp), hty ▸ ⟨_, _, _, _, _, rfl⟩⟩
  case etxAddFailed hty _ _ e _ _ =>
    exact ⟨_, State.dispatches_of_calls (cs := [.add s.frameBytes s.idx0 s.idx1 s.sc (.err e)])
      (by simp), hty ▸ ⟨_, _, _, _, _, rfl⟩⟩
  case etxExecuted hty _ _ _ cmd _ _ _ =>
    exact ⟨_, State.dispatches_of_calls (cs := [.parse s.frameBytes (.ok cmd),
      .execute cmd s.ctxId]) (by simp), hty ▸ ⟨_, _, rfl⟩⟩
  case etxParseFailed hty _ _ e _ _ =>
    exact ⟨_, State.dispatches_of_calls (cs := [.parse s.frameBytes (.err e)]) (by simp),
      hty ▸ ⟨_, _, rfl⟩⟩
  case etxHandedOver k hty op _ _ _ _ =>
    exact ⟨_, State.dispatches_of_calls (cs := [.extDispatch k op s.frameBytes]) (by simp),
      hty ▸ ⟨_, _, rfl⟩⟩
  case sectionStored hi | sectionOverflow hi | firstCharacter hi | badPair hi | pairTaken hi
      | pairRejected hi => simp at hi

/-- R191: no handler but ETX dispatches. -/
theorem HandlerStep.dispatches_eq (h : HandlerStep s i t) (hi : i ≠ .etx) :
    t.dispatches = s.dispatches := by
  cases h
  case etxUnknown | etxVerified | etxVerifyFailed | etxAdded | etxAddFailed | etxExecuted
      | etxParseFailed | etxHandedOver => exact absurd rfl hi
  case pairTaken hsink =>
    obtain ⟨-, -, rfl⟩ | ⟨-, -, rfl⟩ := hsink <;> simp [State.dispatches, isDispatchCall]
  case pairRejected hsink =>
    obtain ⟨-, -, rfl, -⟩ | ⟨-, -, rfl, -⟩ := hsink <;>
      simp [State.dispatches, isDispatchCall, abortFrame]
  all_goals simp [State.dispatches, isDispatchCall, startFrame, hexReset, abortFrame]

end

/-- Settles O47: from the inversion of the handlers, ETX and the others apart. -/
theorem exactlyOneDispatchPerCompletedFrame : Obligations.ExactlyOneDispatchPerCompletedFrame := by
  intro i s t hi h
  obtain ⟨hs, hstep⟩ := handlerStep_of_exec hi h
  refine ⟨?known, fun hno => ?other⟩
  case known =>
    rintro ⟨rfl, ht⟩
    obtain ⟨c, hdispatches, hc⟩ := hstep.dispatches_of_etx ht
    refine ⟨c, hdispatches, fun hty => ?_, fun hty => ?_, fun hty => ?_, fun k hty => ?_⟩
    all_goals
      rw [hty] at hc
      exact hc
  case other =>
    by_cases hetx : i = .etx
    · subst hetx
      have hty : s.ty = .unknown := by_contra fun ht => hno ⟨rfl, ht⟩
      cases h.symm.trans (exec_etx_of_unknown hs hty)
      rfl
    · exact hstep.dispatches_eq hetx

/-! ### Captured bytes (R147 to R151) -/

/-- The storage with the bytes `bs` written from index `i` on. -/
def Memory.writeAll : List Host.Cell → Nat → List Byte → List Host.Cell
  | m, _, [] => m
  | m, i, b :: bs => Memory.writeAll (Memory.write m i b) (i + 1) bs

/-- The state with the bytes `bs` of its frame captured: the section cursor moves with them in a
Notification alone (R27). -/
def State.capture (s : State) (bs : List Byte) : State :=
  { s with
    fb := Memory.writeAll s.fb s.wc bs
    wc := s.wc + bs.length
    sc := if s.ty = .notification then s.sc + bs.length else s.sc }

/-- In the field `st` of a frame of type `ty` a data byte is captured (R148 to R151). -/
def CapturesIn (st : FrameState) (ty : MsgType) : Prop :=
  (st = .payload ∧ ty = .syscall) ∨
    ((st = .notificationSource ∨ st = .notificationTitle ∨ st = .notificationBody) ∧
      ty = .notification)

theorem CapturesIn.pairOk {st : FrameState} {ty : MsgType} {nExt : Nat} (h : CapturesIn st ty) :
    pairOk nExt st ty = true := by
  obtain ⟨rfl, rfl⟩ | ⟨rfl | rfl | rfl, rfl⟩ := h <;> rfl

section
variable (s : State)
@[simp] theorem State.capture_ty (bs : List Byte) : (s.capture bs).ty = s.ty := rfl
@[simp] theorem State.capture_cfg (bs : List Byte) : (s.capture bs).cfg = s.cfg := rfl
@[simp] theorem State.capture_fault (bs : List Byte) : (s.capture bs).fault = s.fault := rfl
@[simp] theorem State.capture_wc (bs : List Byte) : (s.capture bs).wc = s.wc + bs.length := rfl
@[simp] theorem State.capture_idx0 (bs : List Byte) : (s.capture bs).idx0 = s.idx0 := rfl
@[simp] theorem State.capture_idx1 (bs : List Byte) : (s.capture bs).idx1 = s.idx1 := rfl

theorem State.capture_of_notification (ht : s.ty = .notification) (bs : List Byte) :
    s.capture bs = { s with
      fb := Memory.writeAll s.fb s.wc bs, wc := s.wc + bs.length, sc := s.sc + bs.length } := by
  rw [State.capture, if_pos ht]

theorem State.capture_of_ne (ht : s.ty ≠ .notification) (bs : List Byte) :
    s.capture bs = { s with fb := Memory.writeAll s.fb s.wc bs, wc := s.wc + bs.length } := by
  rw [State.capture, if_neg ht]

@[simp] theorem State.capture_nil : s.capture [] = s := by
  simp [State.capture, Memory.writeAll]

theorem State.capture_sc (ht : s.ty = .notification) (bs : List Byte) :
    (s.capture bs).sc = s.sc + bs.length := if_pos ht

theorem State.capture_cons (b : Byte) (bs : List Byte) :
    s.capture (b :: bs) = (s.capture [b]).capture bs := by
  by_cases ht : s.ty = .notification <;>
    simp [State.capture, Memory.writeAll, ht, Nat.add_assoc, Nat.add_comm 1]

/-- R147: the byte captured follows the bytes of the frame. -/
theorem State.capture_singleton_frameBytes (b : Byte) :
    (s.capture [b]).frameBytes = s.frameBytes ++ [b] := by
  have hold : ∀ i ∈ List.range s.wc, (s.capture [b]).fbByte i = s.fbByte i := fun i hi =>
    s.fbByte_write_other b (List.mem_range.1 hi).ne
  have hnew : (s.capture [b]).fbByte s.wc = b := s.fbByte_write_same s.wc b
  unfold State.frameBytes
  rw [State.capture_wc, List.length_singleton, List.range_succ, List.map_append,
    List.map_congr_left hold, List.map_singleton, hnew]

/-- R25, R147: the bytes captured follow the bytes of the frame, in order. -/
theorem State.capture_frameBytes (bs : List Byte) :
    (s.capture bs).frameBytes = s.frameBytes ++ bs := by
  induction bs generalizing s with
  | nil => rw [State.capture_nil, List.append_nil]
  | cons b bs ih =>
    rw [State.capture_cons, ih, State.capture_singleton_frameBytes, ← List.append_cons]

end

theorem State.frameBytes_of_wc {s : State} (h : s.wc = 0) : s.frameBytes = [] := by
  rw [State.frameBytes, h]
  rfl

section
variable {s : State} {st : FrameState} {q : List Byte} {as : List Answer} {outs : List Output}

/-- R148 to R151: below capacity a data byte of such a field is captured. -/
theorem CapturesIn.exec_eq {d : Byte} (h : CapturesIn st s.ty) (hd : isData d = true)
    (hw : s.wc < s.cfg.fbcap) :
    exec (decodeByte st s.ty d) (s.inProcess .pop st q as outs) =
      .next ((s.capture [d]).inProcess .pop st q as outs) := by
  have hsel := selects_inProcess (q := q) (as := as) (outs := outs) h.pairOk d
  rw [decodeByte_of_isData hd] at hsel ⊢
  obtain ⟨rfl, ht⟩ | ⟨hst, ht⟩ := h
  · rw [s.capture_of_ne (by simp [ht])]
    exact (payloadByteIsCaptured d _ hsel).1 hw
  · have hi : decodeData st d = .dataNotificationSource d ∨
        decodeData st d = .dataNotificationTitle d ∨ decodeData st d = .dataNotificationBody d := by
      obtain rfl | rfl | rfl := hst <;> simp [decodeData]
    rw [s.capture_of_notification ht]
    exact (notificationByteIsCaptured d _ _ hi hsel).1 hw

/-- R148 to R151: the data bytes of such a field that fit are captured, one iteration each. -/
theorem CapturesIn.loops_capture {bs : List Byte} (h : CapturesIn st s.ty) (hf : s.fault = none)
    (hdata : ∀ b ∈ bs, isData b = true) (hfits : s.wc + bs.length ≤ s.cfg.fbcap) :
    Loops (s.inProcess .test st (bs ++ q) as outs)
      ((s.capture bs).inProcess .test st q as outs) := by
  induction bs generalizing s with
  | nil =>
    rw [State.capture_nil]
    exact Loops.refl _
  | cons b bs ih =>
    rw [List.length_cons] at hfits
    rw [State.capture_cons]
    have hbyte := h.exec_eq (q := bs ++ q) (as := as) (outs := outs)
      (hdata b List.mem_cons_self) (by omega)
    exact (loops_of_exec hf h.pairOk hbyte).trans <|
      ih (s := s.capture [b]) h hf (fun b' h' => hdata b' (List.mem_cons_of_mem _ h'))
        (by simp only [State.capture_wc, State.capture_cfg, List.length_singleton]; omega)

end

/-! ### The delimiters of a Syscall and of a Notification frame -/

/-- `t` is `s` with an empty frame of type `ty` opened (R131, R146). -/
structure OpensFrame (s t : State) (ty : MsgType) : Prop where
  ty : t.ty = ty
  wc : t.wc = 0
  sc : t.sc = 0
  cfg : t.cfg = s.cfg
  fault : t.fault = s.fault
  results : t.results = s.results
  ctxId : t.ctxId = s.ctxId

section
variable {s : State} {st : FrameState} {q : List Byte} {as : List Answer} {outs : List Output}

/-- R131, R146: STX and a selector of a known type open an empty frame of that type. -/
theorem loops_open {c : Byte} (hf : s.fault = none)
    (hp : pairOk s.cfg.extTypes.length st s.ty = true) (hc : isData c = true)
    (hclass : classify s.cfg c ≠ .unknown) :
    ∃ t, OpensFrame s t (classify s.cfg c) ∧ Loops (s.inProcess .test st (0x02#8 :: c :: q) as outs)
      (t.inProcess .test .init q as (outs ++ stxOutputs st)) := by
  have hcfg : classify (startFrame s).cfg c = classify s.cfg c := by rw [startFrame_cfg]
  refine ⟨(startFrame s).setTy (classify s.cfg c), ?_, ?_⟩
  · rw [startFrame_eq]
    exact ⟨rfl, rfl, rfl, rfl, rfl, rfl, rfl⟩
  · rw [← hcfg] at hclass ⊢
    exact (loops_stx hf hp).trans <|
      loops_selector (s := startFrame s) (by rw [startFrame_fault, hf])
        (by rw [startFrame_ty]; rfl) hc hclass

/-- R137, R138: the separator begins the payload of a Syscall and the source field of a
Notification. -/
theorem loops_beginField (hf : s.fault = none) (hfield : (s.ty = .syscall ∧ st = .payload) ∨
    (s.ty = .notification ∧ st = .notificationSource)) :
    Loops (s.inProcess .test .init (0x1F#8 :: q) as outs) (s.inProcess .test st q as outs) := by
  have hp : pairOk s.cfg.extTypes.length .init s.ty = true := by
    obtain ⟨ht, -⟩ | ⟨ht, -⟩ := hfield <;> rw [ht] <;> rfl
  have hsel := selects_inProcess (q := q) (as := as) (outs := outs) hp 0x1F#8
  refine loops_of_exec hf hp ?_
  obtain ⟨ht, rfl⟩ | ⟨ht, rfl⟩ := hfield <;> rw [ht] at hsel ⊢ <;>
    exact whenSelected_of_selects hsel

/-- R149, R142: the source field is captured, and where it ends is recorded. -/
theorem loops_source {src : List Byte} (hf : s.fault = none) (ht : s.ty = .notification)
    (hdata : ∀ b ∈ src, isData b = true) (hfits : s.wc + src.length ≤ s.cfg.fbcap) :
    Loops (s.inProcess .test .notificationSource (src ++ 0x1F#8 :: q) as outs)
      (((s.capture src).setIdx0 (s.capture src).sc).inProcess .test .notificationTitle q as
        outs) := by
  have hcaptures : CapturesIn .notificationSource s.ty := .inr ⟨.inl rfl, ht⟩
  exact (hcaptures.loops_capture hf hdata hfits).trans <|
    loops_of_exec (s := s.capture src) hf hcaptures.pairOk
      (whenSelected_of_selects
        (selects_inProcess (s := s.capture src) hcaptures.pairOk 0x1F#8))

/-- R150, R143: the title field is captured, and where it ends is recorded. -/
theorem loops_title {title : List Byte} (hf : s.fault = none) (ht : s.ty = .notification)
    (hdata : ∀ b ∈ title, isData b = true) (hfits : s.wc + title.length ≤ s.cfg.fbcap) :
    Loops (s.inProcess .test .notificationTitle (title ++ 0x1F#8 :: q) as outs)
      (((s.capture title).setIdx1 (s.capture title).sc).inProcess .test .notificationBody q as
        outs) := by
  have hcaptures : CapturesIn .notificationTitle s.ty := .inr ⟨.inr (.inl rfl), ht⟩
  exact (hcaptures.loops_capture hf hdata hfits).trans <|
    loops_of_exec (s := s.capture title) hf hcaptures.pairOk
      (whenSelected_of_selects
        (selects_inProcess (s := s.capture title) hcaptures.pairOk 0x1F#8))

end

/-! ### Frame end, whatever the collaborator answers -/

/-- R184: what ETX of a Syscall frame puts out, by the result of the parse. -/
def syscallOutputs (text : List Byte) (ctxId : Nat) (r : Result SyscallValue) : List Output :=
  .call (.parse text r) ::
    match r with
    | .ok cmd => [.call (.execute cmd ctxId)]
    | .err e => [.diag (.syscallParseFail e)]

/-- R183: what ETX of a Notification frame puts out, by the result of the add. -/
def notificationOutputs (bytes : List Byte) (i0 i1 i2 : Nat) (r : Result Unit) : List Output :=
  .call (.add bytes i0 i1 i2 r) ::
    match r with
    | .ok _ => []
    | .err e => [.diag (.notifyReject e)]

section
variable {s : State} {st : FrameState} {q : List Byte} {as : List Answer} {outs : List Output}

/-- R237: collaborators that keep their contract answer the call. -/
theorem exists_answer_inProcess {ph : Phase} (has : ∀ a ∈ as, a ≠ Answer.reenter) :
    ∃ r, (s.inProcess ph st q as outs).answer = some r :=
  State.exists_answer (s := s.inProcess ph st q as outs) has

/-- R133, R184: where the collaborators answer, ETX of a Syscall frame ends in Wait with the parse
of the frame's bytes and what follows from its result. -/
theorem loops_endSyscall (hf : s.fault = none) (ht : s.ty = .syscall) (hw : s.wc ≤ s.cfg.fbcap)
    (has : ∀ a ∈ as, a ≠ Answer.reenter) :
    ∃ n left r, Loops (s.inProcess .test .payload (0x03#8 :: q) as outs)
      ((s.setDrawn n).inProcess .test .wait q left
        (outs ++ syscallOutputs s.frameBytes s.ctxId r)) := by
  have hp : pairOk s.cfg.extTypes.length .payload s.ty = true := by rw [ht]; rfl
  have hsel := selects_inProcess (q := q) (as := as) (outs := outs) hp 0x03#8
  obtain ⟨r, ha⟩ := exists_answer_inProcess (s := s) (st := .payload) (q := q) (outs := outs)
    (ph := .pop) has
  obtain ⟨hok, herr⟩ := etxParsesSyscallFrame _ r hsel ht hw ha
  cases hr : r.isErr with
  | false =>
    obtain ⟨r', ha'⟩ := exists_answer_inProcess (s := s.setDrawn (countDraw as s.drawn))
      (st := .payload) (q := q) (outs := outs) (ph := .pop)
      fun a h => has a (List.mem_of_mem_tail h)
    exact ⟨countDraw as.tail (countDraw as s.drawn), as.tail.tail, .ok ⟨r.value⟩,
      loops_of_exec hf hp (hok r' hr ha')⟩
  | true =>
    exact ⟨countDraw as s.drawn, as.tail, .err ⟨r.value⟩, loops_of_exec hf hp (herr hr)⟩

/-- R133, R183: where the collaborator answers, ETX of a Notification frame ends in Wait with the
frame's bytes added and what follows from the result. -/
theorem loops_endNotification (hf : s.fault = none) (ht : s.ty = .notification)
    (hw : s.wc ≤ s.cfg.fbcap) (has : ∀ a ∈ as, a ≠ Answer.reenter) :
    ∃ n left r, Loops (s.inProcess .test .notificationBody (0x03#8 :: q) as outs)
      (((s.setIdx2 s.sc).setDrawn n).inProcess .test .wait q left
        (outs ++ notificationOutputs s.frameBytes s.idx0 s.idx1 s.sc r)) := by
  have hp : pairOk s.cfg.extTypes.length .notificationBody s.ty = true := by rw [ht]; rfl
  have hsel := selects_inProcess (q := q) (as := as) (outs := outs) hp 0x03#8
  obtain ⟨r, ha⟩ := exists_answer_inProcess (s := s) (st := .notificationBody) (q := q)
    (outs := outs) (ph := .pop) has
  refine ⟨countDraw as s.drawn, as.tail, unitResult r,
    loops_of_exec hf hp ((etxAddsNotificationFrame _ r hsel ht hw ha).trans ?_)⟩
  rw [List.append_assoc]
  cases hr : r.isErr with
  | false =>
    rw [unitResult_of_not_isErr hr]
    rfl
  | true =>
    rw [unitResult_of_isErr hr]
    rfl

end

/-! ### Whole frames -/

/-- R138, R148, R184: past its selector a Syscall frame is its body, captured, and its end. -/
theorem loops_syscallFields {s : State} {body : List Byte} {as : List Answer} {outs : List Output}
    (hf : s.fault = none) (ht : s.ty = .syscall) (hwc : s.wc = 0)
    (hbody : ∀ b ∈ body, isData b = true) (hfits : body.length ≤ s.cfg.fbcap)
    (has : ∀ a ∈ as, a ≠ Answer.reenter) :
    ∃ (t : State) (left : List Answer) (r : Result SyscallValue),
      t.fault = none ∧ t.results = s.results ∧
      Loops (s.inProcess .test .init (0x1F#8 :: (body ++ [0x03#8])) as outs)
        (t.inProcess .test .wait [] left (outs ++ syscallOutputs body s.ctxId r)) := by
  have hlen : s.wc + body.length ≤ s.cfg.fbcap := by rwa [hwc, Nat.zero_add]
  have hcaptures : CapturesIn .payload s.ty := .inl ⟨rfl, ht⟩
  have hbytes : (s.capture body).frameBytes = body := by
    rw [State.capture_frameBytes, State.frameBytes_of_wc hwc, List.nil_append]
  obtain ⟨n, left, r, hend⟩ := loops_endSyscall (s := s.capture body) (q := []) (outs := outs)
    hf ht hlen has
  rw [hbytes] at hend
  exact ⟨(s.capture body).setDrawn n, left, r, hf, rfl,
    (loops_beginField hf (.inl ⟨ht, rfl⟩)).trans <|
      (hcaptures.loops_capture hf hbody hlen).trans hend⟩

/-- Settles O52: STX and the selector open a Syscall frame, its body is captured, and ETX hands it
over with the queue empty, where PROCESS returns. -/
theorem syscallFrameIsParsedVerbatim : Obligations.SyscallFrameIsParsedVerbatim := by
  intro s ctx c body hc hf hp hdata hclass hbody hlen hanswers hq
  have hqueue : s.q = 0x02#8 :: c :: 0x1F#8 :: (body ++ [0x03#8]) := by
    rw [hq]
    simp
  obtain ⟨u, hu, hopen⟩ := loops_open (s := s.setConsumer (.running ctx .test)) (st := s.st)
    (q := 0x1F#8 :: (body ++ [0x03#8])) (as := ctx.answers) (outs := s.outputs) hf hp hdata
    (by rw [State.setConsumer_cfg, hclass]; decide)
  obtain ⟨t, left, r, hfault, hresults, hfields⟩ := loops_syscallFields
    (outs := s.outputs ++ stxOutputs s.st) (hu.fault.trans hf) (hu.ty.trans hclass) hu.wc hbody
    (hu.cfg ▸ hlen) hanswers
  have hloops := hopen.trans hfields
  rw [← hqueue] at hloops
  refine ⟨_, r, execProcess_of_loops hc hfault hloops, rfl, rfl, hfault, ?_, ?_⟩
  · exact congrArg (· ++ [PortResult.processOk]) (hresults.trans hu.results)
  · rw [hu.ctxId]
    cases r <;> exact List.append_cons _ _ _

/-- The registers of a Notification frame at the end of its third field (R142, R143, R149 to
R151). -/
def State.captureFields (s : State) (src title body : List Byte) : State :=
  let t := (s.capture src).setIdx0 (s.capture src).sc
  ((t.capture title).setIdx1 (t.capture title).sc).capture body

/-- The three fields of a Notification frame as they stand in the stream after a selector, and
ETX. -/
def notificationFields (src title body : List Byte) : List Byte :=
  0x1F#8 :: (src ++ 0x1F#8 :: (title ++ 0x1F#8 :: (body ++ [0x03#8])))

section
variable {s : State} {src title body : List Byte} (ht : s.ty = .notification)

@[simp] theorem State.captureFields_ty : (s.captureFields src title body).ty = s.ty := rfl
@[simp] theorem State.captureFields_fault :
    (s.captureFields src title body).fault = s.fault := rfl
@[simp] theorem State.captureFields_results :
    (s.captureFields src title body).results = s.results := rfl

/-- R183: the bytes of the fields follow each other without the separators. -/
theorem State.captureFields_frameBytes (hwc : s.wc = 0) :
    (s.captureFields src title body).frameBytes = src ++ title ++ body := by
  simp only [State.captureFields, State.capture_frameBytes, State.setIdx0_frameBytes,
    State.setIdx1_frameBytes, State.frameBytes_of_wc hwc, List.nil_append]

include ht

/-- R142, R143: the indices are the cumulative lengths of the fields. -/
theorem State.captureFields_indices (hsc : s.sc = 0) :
    (s.captureFields src title body).idx0 = src.length ∧
    (s.captureFields src title body).idx1 = src.length + title.length ∧
    (s.captureFields src title body).sc = src.length + title.length + body.length := by
  simp [State.captureFields, State.capture_sc, ht, hsc]

variable {as : List Answer} {outs : List Output} (hf : s.fault = none) (hwc : s.wc = 0)
  (hdata : ∀ b ∈ src ++ title ++ body, isData b = true)
  (hfits : (src ++ title ++ body).length ≤ s.cfg.fbcap)
include hf hwc hdata hfits

/-- R137, R142, R143, R149 to R151: past its selector a Notification frame is its three fields,
captured, and its end. -/
theorem loops_captureFields :
    Loops (s.inProcess .test .init (notificationFields src title body) as outs)
      ((s.captureFields src title body).inProcess .test .notificationBody [0x03#8] as outs) := by
  simp only [List.mem_append, or_imp, forall_and] at hdata
  simp only [List.length_append] at hfits
  obtain ⟨⟨hsrc, htitle⟩, hbody⟩ := hdata
  have hcaptures : CapturesIn .notificationBody s.ty := .inr ⟨.inr (.inr rfl), ht⟩
  exact (loops_beginField hf (.inr ⟨ht, rfl⟩)).trans <|
    (loops_source hf ht hsrc (by omega)).trans <|
    (loops_title (s := (s.capture src).setIdx0 _) hf ht htitle (by simp; omega)).trans <|
      CapturesIn.loops_capture (s := State.setIdx1 _ _) hcaptures hf hbody (by simp; omega)

/-- R183: past its selector a Notification frame ends in Wait with its one call. -/
theorem loops_notificationFields (hsc : s.sc = 0) (has : ∀ a ∈ as, a ≠ Answer.reenter) :
    ∃ (t : State) (left : List Answer) (r : Result Unit), t.fault = none ∧ t.results = s.results ∧
      Loops (s.inProcess .test .init (notificationFields src title body) as outs)
        (t.inProcess .test .wait [] left (outs ++ notificationOutputs (src ++ title ++ body)
          src.length (src.length + title.length)
          (src.length + title.length + body.length) r)) := by
  have hcursor : (s.captureFields src title body).wc ≤ s.cfg.fbcap := by
    simpa [State.captureFields, hwc, Nat.add_assoc] using hfits
  obtain ⟨hidx0, hidx1, hidx2⟩ :=
    State.captureFields_indices (src := src) (title := title) (body := body) ht hsc
  obtain ⟨n, left, r, hend⟩ := loops_endNotification (s := s.captureFields src title body)
    (q := []) (outs := outs) (State.captureFields_fault.trans hf) (State.captureFields_ty.trans ht)
    hcursor has
  rw [State.captureFields_frameBytes hwc, hidx0, hidx1, hidx2] at hend
  refine ⟨_, left, r, ?_, ?_, (loops_captureFields ht hf hwc hdata hfits).trans hend⟩
  · rw [State.setDrawn_fault, State.setIdx2_fault, State.captureFields_fault, hf]
  · rw [State.setDrawn_results, State.setIdx2_results, State.captureFields_results]

end

/-- Settles O53: STX and the selector open a Notification frame, its fields are captured, and ETX
hands them over with the queue empty, where PROCESS returns. -/
theorem notificationFrameCarriesSections : Obligations.NotificationFrameCarriesSections := by
  intro s ctx c src title body hc hf hp hdata hclass hfields hlen hanswers hq
  have hqueue : s.q = 0x02#8 :: c :: notificationFields src title body := by
    rw [hq]
    simp [notificationFields]
  obtain ⟨u, hu, hopen⟩ := loops_open (s := s.setConsumer (.running ctx .test)) (st := s.st)
    (q := notificationFields src title body) (as := ctx.answers) (outs := s.outputs) hf hp hdata
    (by rw [State.setConsumer_cfg, hclass]; decide)
  obtain ⟨t, left, r, hfault, hresults, hloop⟩ := loops_notificationFields
    (outs := s.outputs ++ stxOutputs s.st) (hu.ty.trans hclass) (hu.fault.trans hf) hu.wc hfields
    (hu.cfg ▸ hlen) hu.sc hanswers
  have hloops := hopen.trans hloop
  rw [← hqueue] at hloops
  refine ⟨_, r, execProcess_of_loops hc hfault hloops, rfl, rfl, hfault, ?_, ?_⟩
  · exact congrArg (· ++ [PortResult.processOk]) (hresults.trans hu.results)
  · cases r <;> exact List.append_cons _ _ _

end Sys2Proof.Machine
end

section
/-! PROOFS. The exceptions (60_exceptions.md): the codes of the events and of the faults (R201, R205)
with the labels of the registers (10_state.md R21, R23), a recorded fault stays until a RESET (R207),
Wait discards everything but STX (R208), and a handler emits at most one event, after its calls
(R209). -/

namespace Sys2Proof.Machine

/-! ### The codes (R201, R205) -/

/-- Settles O60: row by row, in the order of the tables. -/
theorem codesAreAsTabulated : Obligations.CodesAreAsTabulated := by
  refine ⟨?partialFrame, ?unknownType, ?usUnknownType, ?invalidHex, ?dupSeparator, ?killReject,
    ?checksumReject, ?ramReject, ?verifyFail, ?notifyReject, ?syscallParseFail, ?queueOverflow,
    ?frameBufferOverflow, ?labels⟩
  case usUnknownType => exact ⟨rfl, rfl⟩
  case checksumReject | ramReject | verifyFail | invalidHex => exact fun _ _ => ⟨rfl, rfl⟩
  case queueOverflow => exact fun _ _ => rfl
  case frameBufferOverflow => exact fun _ => rfl
  case labels => exact ⟨rfl, rfl, rfl, rfl, rfl, rfl, rfl, rfl, rfl, rfl, rfl, rfl, fun _ => rfl⟩
  all_goals exact fun _ => ⟨rfl, rfl⟩

/-! ### A recorded fault (R207) -/

/-- R230: with no transaction in progress a RESET is never refused. -/
theorem execReset_of_idle {s : State} (hp : s.producer = .idle) (hc : s.consumer = .idle) :
    execReset s = .next (resetBlock s) := by
  simp only [execReset, hp, hc]

/-- Settles O45: a halted engine's step, a RESET apart, moves the ports alone; the RESET leaves the
register as R230 says. -/
theorem faultIsStickyUntilReset : Obligations.FaultIsStickyUntilReset := by
  refine ⟨fun s t f hf h hreset => ?_, fun s rest hpair hp hc hi => ?_⟩
  · have hhalted : s.fault ≠ none := hf ▸ Option.some_ne_none f
    exact (step_movesPortsAlone hhalted hreset h).fault.trans hf
  · have hstep : step s = execReset (s.setInputs rest) := step_of_input hpair hi
    exact ⟨_, hstep.trans (execReset_of_idle hp hc), rfl⟩

/-! ### Wait (R208) -/

/-- R132, R134, R145: in Wait a Step on any byte but STX leaves the state as it is. -/
theorem byteStep_of_wait {s : State} {b : Byte} (hst : s.st = .wait) (hp : s.pairExists = true)
    (hc : s.consuming = true) (hb : b ≠ 0x02#8) : byteStep b s = .next s := by
  by_cases hdata : isData b = true
  · exact byteStep_data_of_wait hst hp hc hdata
  · have hdelim : b = 0x03#8 ∨ b = 0x1F#8 := by
      by_contra hno
      obtain ⟨hetx, hus⟩ := not_or.1 hno
      exact hdata (by simp [isData, byteClass, hb, hetx, hus])
    have hsel := selects_decodeByte hp hc b
    rw [byteStep_eq_exec hp]
    rw [hst] at hsel ⊢
    obtain rfl | rfl := hdelim <;> exact whenSelected_of_selects hsel

/-- Settles O50, by induction on the stream: each byte leaves the state from which the rest runs. -/
theorem waitLastsUntilStx : Obligations.WaitLastsUntilStx := by
  intro bs s hst hp hc hbs
  induction bs with
  | nil => rfl
  | cons b bs ih =>
    obtain ⟨hb, hrest⟩ := List.forall_mem_cons.1 hbs
    rw [stepBytes, byteStep_of_wait hst hp hc hb, andThen_next]
    exact ih hrest

/-! ### Calls and events of a handler (R206, R209) -/

section
variable {i : Instr} {s t : State} (h : HandlerStep s i t)
include h

/-- R206: a handler that raises a fault puts nothing out. -/
theorem HandlerStep.outputs_eq_of_fault_ne (hf : t.fault ≠ s.fault) : t.outputs = s.outputs := by
  cases h
  case payloadOverflow | sectionOverflow => exact raiseFatal_outputs _ s
  all_goals exact absurd (by simp [startFrame, hexReset, abortFrame]) hf

/-- R152, R153: a hex handler makes no call, or one call and then no INVALID_HEX. -/
theorem HandlerStep.streams_of_hex {d : Byte}
    (hi : i = .dataApplicationChecksum d ∨ i = .dataApplicationStore d) :
    t.calls = s.calls ∨ ∃ c ds, t.calls = s.calls ++ [c] ∧ t.diags = s.diags ++ ds ∧
      ∀ c0 c1, ds ≠ [.invalidHex c0 c1] := by
  cases h
  case firstCharacter | badPair => exact .inl (by simp [abortFrame])
  case pairTaken c _ _ _ _ _ _ => exact .inr ⟨c, [], by simp⟩
  case pairRejected c g _ _ _ _ _ hsink =>
    refine .inr ⟨c, [g], by simp [abortFrame], by simp [abortFrame], ?_⟩
    obtain ⟨-, -, -, rfl⟩ | ⟨-, -, -, rfl⟩ := hsink <;> simp
  case sectionStored hs | sectionOverflow hs =>
    obtain ⟨rfl, -⟩ | ⟨rfl, -⟩ | ⟨rfl, -⟩ := hs <;> simp at hi
  all_goals simp at hi

end

/-- Settles O46: the outputs that a handler adds fix its calls and its events, so what it does to each
stream bounds them. -/
theorem atMostOneDiagnosticPerStep : Obligations.AtMostOneDiagnosticPerStep := by
  intro i s t hi h
  obtain ⟨-, hstep⟩ := handlerStep_of_exec hi h
  obtain ⟨cs, ds, hout, -, hds, -, -⟩ := hstep.outputs
  have hcalls : t.calls = s.calls ++ cs := by simp [State.calls, hout]
  have hdiags : t.diags = s.diags ++ ds := by simp [State.diags, hout]
  refine ⟨cs, ds, hout, hds, fun hf => ?fault, fun d hd => ?hex⟩
  case fault =>
    have hquiet := hstep.outputs_eq_of_fault_ne hf
    simpa [hquiet] using hout
  case hex =>
    obtain hnone | ⟨c, es, hone, hes, hvalid⟩ := hstep.streams_of_hex hd
    · have hcs : cs = [] := List.self_eq_append_right.1 (hnone.symm.trans hcalls)
      exact ⟨by simp [hcs], fun _ _ _ => hcs⟩
    · have hcs : cs = [c] := List.append_cancel_left (hcalls.symm.trans hone)
      have heq : ds = es := List.append_cancel_left (hdiags.symm.trans hes)
      exact ⟨by simp [hcs], fun c0 c1 hinv => absurd (heq ▸ hinv) (hvalid c0 c1)⟩

end Sys2Proof.Machine
end

section
/-! PROOFS. Reset and hazards (70_reset_and_hazards.md): what RESET leaves (R230), and what is
refused: transactions that overlap (R236), and a collaborator that re-enters, at each call that a
handler makes (R237). -/

namespace Sys2Proof.Machine

/-! ### RESET, and transactions that overlap (R230, R236) -/

theorem beginWrite_of_producer_busy {s : State} (h : s.producer ≠ .idle) (bytes : List Byte) :
    beginWrite bytes s = .refused .overlappingWrite := by
  cases hp : s.producer with
  | idle => exact absurd hp h
  | test | enqueue => simp only [beginWrite, hp]

theorem beginProcess_of_consumer_busy {s : State} (h : s.consumer ≠ .idle) (ctx : Ctx) :
    beginProcess ctx s = .refused .overlappingProcess := by
  cases hc : s.consumer with
  | idle => exact absurd hc h
  | running => simp only [beginProcess, hc]

theorem execReset_of_busy {s : State} (h : s.producer ≠ .idle ∨ s.consumer ≠ .idle) :
    execReset s = .refused .overlappingReset := by
  cases hp : s.producer with
  | test | enqueue => simp only [execReset, hp]
  | idle =>
    cases hc : s.consumer with
    | running => simp only [execReset, hp, hc]
    | idle => exact absurd h (by simp [hp, hc])

/-- Settles O31: with both agents idle RESET leaves `resetBlock`, and with either busy it is
refused. -/
theorem resetRestoresTheBlock : Obligations.ResetRestoresTheBlock :=
  ⟨fun _ hp hc => ⟨_, execReset_of_idle hp hc, rfl, rfl, rfl, rfl, rfl, rfl, rfl, rfl, rfl, rfl,
    rfl, rfl, rfl, rfl, rfl, rfl⟩, fun _ => execReset_of_busy⟩

/-- Settles O33: a transaction is refused at its begin, and so it is as a whole. -/
theorem overlappingTransactionsAreRefused : Obligations.OverlappingTransactionsAreRefused := by
  refine ⟨fun bytes s hp => ?write, fun ctx s hc => ?process, fun _ => execReset_of_busy⟩
  case write =>
    have hbegin := beginWrite_of_producer_busy hp bytes
    exact ⟨congrArg (andThen · (runProducer (2 * bytes.length))) hbegin, hbegin⟩
  case process =>
    have hbegin := beginProcess_of_consumer_busy hc ctx
    exact ⟨congrArg (andThen · (runConsumer (2 * (s.q.length + 1)))) hbegin, hbegin⟩

/-! ### A collaborator that re-enters (R237) -/

/-- R182 to R185: the Dispatcher's first call, for each type that has one. -/
theorem dispatch_of_reentry {s : State} (hw : s.wc ≤ s.cfg.fbcap) (ha : s.answer = none)
    (ht : s.ty = .application ∨ s.ty = .notification ∨ s.ty = .syscall ∨
      ∃ k op, s.ty = .ext k ∧ extTarget s.cfg.extDispatch k = some op) :
    dispatch s = .refused .collaboratorReentry := by
  obtain ht | ht | ht | ⟨k, op, ht, hop⟩ := ht
  · simp only [dispatch, ht]
    exact callThen_of_none ha
  · simp only [dispatch, ht]
    unfold dispatchNotification
    exact (withFrameBytes_of_le (s := s.setIdx2 s.sc) hw).trans
      (callThen_of_none (s := s.setIdx2 s.sc) ha)
  · simp only [dispatch, ht]
    exact (withFrameBytes_of_le hw).trans (callThen_of_none ha)
  · simp only [dispatch, ht, dispatchExt, hop]
    exact (withFrameBytes_of_le hw).trans (callThen_of_none ha)

/-- R182, R184: the Dispatcher's second call, `status` after a failed verify and `execute` after a
good parse. -/
theorem dispatch_of_second_reentry {s : State} {r : Response} (hw : s.wc ≤ s.cfg.fbcap)
    (ha : s.answer = some r) (ha' : s.advance.answer = none)
    (ht : (s.ty = .application ∧ r.isErr = true) ∨ (s.ty = .syscall ∧ r.isErr = false)) :
    dispatch s = .refused .collaboratorReentry := by
  obtain ⟨ht, hr⟩ | ⟨ht, hr⟩ := ht
  · simp only [dispatch, ht]
    refine (callThen_of_answer ha).trans ?_
    rw [unitResult_of_isErr hr]
    exact callThen_of_none (s := s.advance.addCall (.verify (.err ⟨r.value⟩))) ha'
  · simp only [dispatch, ht]
    refine (withFrameBytes_of_le hw).trans ((callThen_of_answer ha).trans ?_)
    rw [parseResult_of_not_isErr hr]
    exact callThen_of_none (s := s.advance.addCall (.parse s.frameBytes (.ok ⟨r.value⟩))) ha'

/-- R152, R153: the sink of a completed pair. -/
theorem decodeCharacter_of_reentry {s : State} {d v : Byte} {call : Byte → Result Unit → Call}
    {reject : Byte → CollabError → Diag} (h : s.hxFill = true) (hv : hexPair s.hxC0 d = some v)
    (ha : s.answer = none) :
    decodeCharacter d call reject s = .refused .collaboratorReentry := by
  simp only [decodeCharacter, feed_second h, hv]
  exact callThen_of_none (s := { s with hxC1 := d, hxFill := false }) ha

/-- Settles O34: a handler that is selected is its body, and each body is refused at its first call
that the collaborator does not answer. -/
theorem collaboratorReentryIsRefused : Obligations.CollaboratorReentryIsRefused := by
  refine ⟨fun s hs ha => ?kill, fun s hs hw ha ht => ?first, fun s r hs hw ha ha' ht => ?second,
    fun i s d v hi hs hfill hv ha => ?sink⟩
  case kill => exact (whenSelected_of_selects hs).trans (callThen_of_none ha)
  case first => exact (exec_etx hs).trans (dispatch_of_reentry (s := s.setSt .wait) hw ha ht)
  case second =>
    exact (exec_etx hs).trans (dispatch_of_second_reentry (s := s.setSt .wait) hw ha ha' ht)
  case sink =>
    obtain rfl | rfl := hi
    all_goals exact (whenSelected_of_selects hs).trans (decodeCharacter_of_reentry hfill hv ha)

end Sys2Proof.Machine
end
